-- ==== Sys2Proof/Word.lean ====
section
/-! DEFINITION. The widths of the spec (00_scope.md R9, R10): wire symbols, CRC values, host words and host addresses. -/

namespace Sys2Proof

/-- A wire symbol or buffer entry: an unsigned 8-bit byte (R9, R10). -/
abbrev Byte := BitVec 8

/-- A CRC value, or another 16-bit field (R9). -/
abbrev Half := BitVec 16

/-- A word of the host data bus (R9, R63). -/
abbrev Word := BitVec 32

/-- A host byte address: the 12 bits the block has (R9, R60). -/
abbrev HostAddr := BitVec 12

end Sys2Proof
end

