-- ==== Sys2Proof/Config.lean ====
section
/-! DEFINITION. What an implementation fixes (00_scope.md R7, R8) and the free values of the model: constants with no body,
so that no proof can see what they are. -/

namespace Sys2Proof

/-- The four function-code classes the source names (41_length_dispatch.md R120). -/
inductive FcClass where
  | read
  | writeSingle
  | writeMultiple
  | other
deriving DecidableEq, Repr

/-- The parameters the source leaves open (R8). They are data that a machine carries and no step changes, so a claim about
every state is a claim about every choice of them (log entry 5). -/
structure Params where
  /-- TICK_PERIOD in nanoseconds; no rule reads it but R8's constraint (D23). -/
  tickPeriodNs : Nat
  /-- DEFAULT_TIMEOUT_TICKS: what TIMEOUT holds after Reset (R36). -/
  defaultTimeoutTicks : Word
  /-- FC_CLASS as a table; a code that stands in no row is OTHER, "any other/unrecognized function code" (R120). -/
  fcTable : List (Byte × FcClass)
deriving DecidableEq, Repr

/-- The timing parameters with R8's constraints: a period above 0, and a default of 1 to 9 seconds ("single-digit seconds"). -/
structure Timing where
  tickPeriodNs : Nat := 1000000000
  defaultTimeoutTicks : Word := 5
  period_pos : 0 < tickPeriodNs := by decide
  at_least_one_second : 1000000000 ≤ defaultTimeoutTicks.toNat * tickPeriodNs := by decide
  at_most_nine_seconds : defaultTimeoutTicks.toNat * tickPeriodNs ≤ 9000000000 := by decide
deriving Inhabited

/-- FREE VALUE: the block's TICK_PERIOD and DEFAULT_TIMEOUT_TICKS, open but for R8's constraints (D23; log entry 7). -/
opaque Config.timing : Timing

/-- FREE VALUE: what TXBUF[i] holds at power-up, a draw per byte (70_reset_and_hazards.md R252; log entry 8). -/
opaque Config.powerUpTxByte : Nat → Byte

/-- FREE VALUE: what RXBUF[i] holds at power-up, a draw per byte (R252; log entry 8). -/
opaque Config.powerUpRxByte : Nat → Byte

/-- MIN_ADU (R7): the shortest frame. -/
abbrev Config.minAdu : Nat := 4

/-- MAX_ADU (R7): the longest frame, and the number of entries of each buffer (10_state.md R37, R38). -/
abbrev Config.maxAdu : Nat := 256

/-- MAX_DATA (R7): the longest PDU data. -/
abbrev Config.maxData : Nat := 252

end Sys2Proof
end

