-- ==== Sys2Proof/Syntax.lean ====
section
/-! DEFINITION. The nine commands of the block (30_encoding.md R80 to R82), one constructor per row of the opcode table. -/

namespace Sys2Proof

/-- A command word's meaning: the row of R82 it matches, with the row's immediate (R81). -/
inductive Instr where
  /-- NOP (40_crc.md R104). -/
  | nop
  /-- CRC_INIT (R105). -/
  | crcInit
  /-- CRC_BYTE b: the byte immediate B = v[15:8] (R106). -/
  | crcByte (b : Byte)
  /-- CRC_VERIFY h: the 16-bit immediate H = v[31:16] (R107). -/
  | crcVerify (h : Half)
  /-- ENCODE (42_codec.md R150). -/
  | encode
  /-- DECODE (R151). -/
  | decode
  /-- START (43_transport.md R173). -/
  | start
  /-- CONNECT (R174). -/
  | connect
  /-- CLOSE (R175). -/
  | close
deriving DecidableEq, Repr

end Sys2Proof
end

