-- ==== Sys2Proof/WellFormed.lean ====
section
/-! DEFINITION. When the three fields of a command word make a command (30_encoding.md R80, R83), and when parameters meet
the constraints of 00_scope.md R8. -/

namespace Sys2Proof

/-- The three fields of a command word (R80): OP = v[7:0], B = v[15:8], H = v[31:16]. -/
structure CommandFields where
  op : Byte
  b : Byte
  h : Half
deriving DecidableEq, Repr

/-- The opcode is one of R82's nine. -/
def CommandFields.opKnown (f : CommandFields) : Bool :=
  f.op ∈ [0x00#8, 0x01#8, 0x02#8, 0x03#8, 0x10#8, 0x11#8, 0x12#8, 0x20#8, 0x21#8]

/-- B is 0 for every command except CRC_BYTE (R83). -/
def CommandFields.bAllowed (f : CommandFields) : Bool :=
  f.b == 0#8 || f.op == 0x02#8

/-- H is 0 for every command except CRC_VERIFY (R83). -/
def CommandFields.hAllowed (f : CommandFields) : Bool :=
  f.h == 0#16 || f.op == 0x03#8

/-- The fields make a command and no reserved word (R83, R84). -/
def CommandFields.wellFormed (f : CommandFields) : Bool :=
  f.opKnown && f.bAllowed && f.hAllowed

/-- The fields of a command (R82). -/
def Instr.fields : Instr → CommandFields
  | .nop => ⟨0x00, 0, 0⟩
  | .crcInit => ⟨0x01, 0, 0⟩
  | .crcByte b => ⟨0x02, b, 0⟩
  | .crcVerify h => ⟨0x03, 0, h⟩
  | .encode => ⟨0x10, 0, 0⟩
  | .decode => ⟨0x11, 0, 0⟩
  | .start => ⟨0x12, 0, 0⟩
  | .connect => ⟨0x20, 0, 0⟩
  | .close => ⟨0x21, 0, 0⟩

/-- A command is well formed when its fields are. The operand types carry the widths of R81, so every command is. -/
def Instr.wellFormed (i : Instr) : Bool :=
  i.fields.wellFormed

/-- TICK_PERIOD is above 0 (R8). -/
def Params.periodPositive (p : Params) : Bool :=
  decide (0 < p.tickPeriodNs)

/-- DEFAULT_TIMEOUT_TICKS is 1 to 9 seconds at TICK_PERIOD (R8). -/
def Params.singleDigitSeconds (p : Params) : Bool :=
  decide (1000000000 ≤ p.defaultTimeoutTicks.toNat * p.tickPeriodNs) &&
    decide (p.defaultTimeoutTicks.toNat * p.tickPeriodNs ≤ 9000000000)

/-- FC_CLASS maps 0x03 to READ (R8). -/
def Params.readsHoldingRegisters (p : Params) : Bool :=
  p.fcTable.lookup 0x03#8 == some .read

/-- The parameters meet every constraint of R8. -/
def Params.wellFormed (p : Params) : Bool :=
  p.periodPositive && p.singleDigitSeconds && p.readsHoldingRegisters

end Sys2Proof
end

