-- ==== Sys2Proof/Decode.lean ====
section
/-! DEFINITION. Decoding a command word (30_encoding.md R80 to R84) and, after it, the encoder. -/

namespace Sys2Proof

/-- One row of the opcode map (R82). -/
structure OpRow where
  pattern : Word
  mask : Word
  build : Word → Instr

/-- The immediate B = v[15:8] (R81). -/
def immB (w : Word) : Byte :=
  w.extractLsb' 8 8

/-- The immediate H = v[31:16] (R81). -/
def immH (w : Word) : Half :=
  w.extractLsb' 16 16

/-- The opcode OP = v[7:0] (R80). -/
def opField (w : Word) : Byte :=
  w.extractLsb' 0 8

/-- The three fields of a word (R80). -/
def wordFields (w : Word) : CommandFields :=
  ⟨opField w, immB w, immH w⟩

/-- The opcode map, row for row (R82). -/
def opTable : List OpRow :=
  [ ⟨0x00000000, 0xFFFFFFFF, fun _ => .nop⟩,
    ⟨0x00000001, 0xFFFFFFFF, fun _ => .crcInit⟩,
    ⟨0x00000002, 0xFFFF00FF, fun w => .crcByte (immB w)⟩,
    ⟨0x00000003, 0x0000FFFF, fun w => .crcVerify (immH w)⟩,
    ⟨0x00000010, 0xFFFFFFFF, fun _ => .encode⟩,
    ⟨0x00000011, 0xFFFFFFFF, fun _ => .decode⟩,
    ⟨0x00000012, 0xFFFFFFFF, fun _ => .start⟩,
    ⟨0x00000020, 0xFFFFFFFF, fun _ => .connect⟩,
    ⟨0x00000021, 0xFFFFFFFF, fun _ => .close⟩ ]

/-- The row's test `(v & mask) == match` (R80). -/
def OpRow.hits (r : OpRow) (w : Word) : Bool :=
  w &&& r.mask == r.pattern

/-- Why a word is reserved (R83, R84). -/
inductive Reserved where
  /-- An OP value no row has. -/
  | unknownOpcode (op : Byte)
  /-- A known OP with a nonzero reserved field. -/
  | reservedField (op : Byte)
deriving DecidableEq, Repr

/-- The reason a word that hits no row is reserved. -/
def reservedReason (w : Word) : Reserved :=
  if (wordFields w).opKnown then .reservedField (opField w) else .unknownOpcode (opField w)

/-- Decoding, in R80's order: find the row; if there is none, the word is reserved. -/
def decode (w : Word) : Except Reserved Instr :=
  match opTable.find? (·.hits w) with
  | some r => .ok (r.build w)
  | none => .error (reservedReason w)

/-- The word of a command (the encoding strings of R82: H, then B, then OP, from bit 31 down). -/
def encode : Instr → Word
  | .nop => 0x0000#16 ++ 0x00#8 ++ 0x00#8
  | .crcInit => 0x0000#16 ++ 0x00#8 ++ 0x01#8
  | .crcByte b => 0x0000#16 ++ b ++ 0x02#8
  | .crcVerify h => h ++ 0x00#8 ++ 0x03#8
  | .encode => 0x0000#16 ++ 0x00#8 ++ 0x10#8
  | .decode => 0x0000#16 ++ 0x00#8 ++ 0x11#8
  | .start => 0x0000#16 ++ 0x00#8 ++ 0x12#8
  | .connect => 0x0000#16 ++ 0x00#8 ++ 0x20#8
  | .close => 0x0000#16 ++ 0x00#8 ++ 0x21#8

/-- The 32-bit word that a table word of `nbits` bits stands for: the bits above `nbits` are 0. A command is one whole bus
word, so no byte order enters (20_memory.md R63, R70; log entry 14). -/
def commandWord (nbits w : Nat) : Word :=
  BitVec.ofNat 32 (w % 2 ^ nbits)

/-- What the decoder reads from a word numbered as the opcode table numbers it. -/
def decodeTableWord (nbits w : Nat) : Option Instr :=
  match decode (commandWord nbits w) with
  | .ok i => some i
  | .error _ => none

end Sys2Proof
end

