-- ==== Sys2Proof/Machine/FcClass.lean ====
section
/-! DEFINITION. FC_CLASS: the class of a request function code (41_length_dispatch.md R120, R121). -/

namespace Sys2Proof.Machine

/-- FC_CLASS(Q) of a table: the row of Q, and OTHER where there is none (R120). -/
def fcClassOf (table : List (Byte × FcClass)) (q : Byte) : FcClass :=
  (table.lookup q).getD .other

/-- The default FC_CLASS table (R121). Only 0x03 is the source's; the other seven codes are the spec's general knowledge
(93_implementation_defined.md G1; log entry 6). -/
def defaultFcTable : List (Byte × FcClass) :=
  [ (0x01, .read), (0x02, .read), (0x03, .read), (0x04, .read),
    (0x05, .writeSingle), (0x06, .writeSingle),
    (0x0F, .writeMultiple), (0x10, .writeMultiple) ]

end Sys2Proof.Machine
end

