-- ==== Sys2Proof/Machine/State.lean ====
section
/-! DEFINITION. The state of the block (10_state.md R20 to R44), its events (00_scope.md R13, R14), and the state after a
power-up Reset (70_reset_and_hazards.md R250 to R254). -/

namespace Sys2Proof.Machine

/-- PHASE, the block's only control position (10_state.md R40). -/
inductive Phase where
  | idle
  | connecting
  | tx
  | rx
deriving DecidableEq, Repr

/-- The values ERR takes (60_exceptions.md R220). 0x0B to 0xFF are never written (log entry 10). -/
inductive ErrCode where
  | ok
  | connectionError
  | writeError
  | readError
  | timeoutError
  | frameTooShort
  | crcMismatch
  | exceptionResponse
  | payloadTooLong
  | addressMismatch
  | lengthError
deriving DecidableEq, Repr

/-- The input events: one step consumes one (00_scope.md R13). -/
inductive Event where
  | reset
  | hostRead (addr : HostAddr)
  | hostWrite (addr : HostAddr) (v : Word)
  | txPull
  | rxByte (b : Byte)
  | connectOk
  | connectFail
  | linkDown
  | tick
deriving DecidableEq, Repr

/-- The output events (00_scope.md R14). -/
inductive Output where
  | readData (v : Word)
  | txByte (b : Byte)
  | dial
  | hangup
deriving DecidableEq, Repr

/-- A byte buffer as a list of (index, byte), indexes strictly rising. An index that is not listed has not been written since
power-up (log entry 8). -/
abbrev Memory := List Host.Cell

/-- The whole state: what the spec gives the block, then three fields of the model's own. STATUS and ENGINE are views
(R23, R34), CMD has no storage (R22). -/
structure State where
  /-- IRQ_EN: bit 0 DONE_IE, bit 1 ATTN_IE (R25). -/
  irqEn : BitVec 2
  /-- SLAVE (R26). -/
  slave : Byte
  /-- SLAVE_SET (R26). -/
  slaveSet : Bool
  /-- TIMEOUT (R36). -/
  timeout : Word
  /-- TXFC (R27). -/
  txfc : Byte
  /-- TXLEN (R28). -/
  txlen : Half
  /-- TXCRC (R29). -/
  txcrc : Half
  /-- RXLEN (R30). -/
  rxlen : BitVec 9
  /-- RXEXP (R31). -/
  rxexp : BitVec 9
  /-- RXCRC (R32). -/
  rxcrc : Half
  /-- CRC_ACC (R33). -/
  crcAcc : Half
  /-- TXBUF (R37). -/
  txbuf : Memory
  /-- RXBUF (R38). -/
  rxbuf : Memory
  /-- LINK (R39). -/
  link : Bool
  /-- PHASE (R40). -/
  phase : Phase
  /-- TXPOS (R41). -/
  txpos : Byte
  /-- PENDING_START (R42). -/
  pendingStart : Bool
  /-- DEADLINE (R35, R43). -/
  deadline : Word
  /-- DONE (R44). -/
  done : Bool
  /-- REJECT (R44). -/
  reject : Bool
  /-- ILLEGAL (R44). -/
  illegal : Bool
  /-- EXCESS (R44). -/
  excess : Bool
  /-- CRC_MATCH (R44). -/
  crcMatch : Bool
  /-- ERR (R44). -/
  err : ErrCode
  /-- EXC_CODE (R44). -/
  excCode : Byte
  /-- FC_MISMATCH (R44). -/
  fcMismatch : Bool
  /-- FALLBACK (R44). -/
  fallback : Bool
  /-- The parameters of 00_scope.md R8, which no step changes (log entry 5). -/
  params : Params
  /-- The input events still to come, oldest first (log entry 1). -/
  inputs : List Event
  /-- The output events emitted so far, oldest first (log entry 2). -/
  outputs : List Output
deriving DecidableEq, Repr

/-- Why the machine stops. The spec gives the block no traps (60_exceptions.md); each of these stands only where a rule's own
precondition fails, in states that no run reaches (log entry 9). -/
inductive Fault where
  /-- Raised by RxByte in PHASE RX with RXLEN >= 256: RXBUF has no such entry (10_state.md R38, R45). Safe. -/
  | rxbufOverrun
  /-- Raised by TxPull in PHASE TX with TXLEN > 252 or TXPOS beyond the frame: txByte has no such byte (42_codec.md R140,
  10_state.md R45). Safe. -/
  | txFrameOverrun
  /-- Raised by RxByte where dispatch() would run outside its precondition 1 <= RXLEN <= 3 (41_length_dispatch.md R128). Safe. -/
  | dispatchPrecondition
deriving DecidableEq, Repr

/-- Why an instruction has no meaning. -/
inductive Refusal where
  /-- Raised by exec's arms for an instruction whose meaning is not written; no arm raises it. Safe. -/
  | notModelled (mnemonic : String)
deriving DecidableEq, Repr

/-- Every element at its reset value (70_reset_and_hazards.md R250), around what a Reset leaves: the buffers (R252), the
parameters, and the events to come and emitted. -/
def State.cleared (params : Params) (txbuf rxbuf : Memory) (inputs : List Event) (outputs : List Output) : State where
  irqEn := 0
  slave := 0x00
  slaveSet := false
  timeout := params.defaultTimeoutTicks
  txfc := 0x00
  txlen := 0
  txcrc := 0x0000
  rxlen := 0
  rxexp := 0
  rxcrc := 0x0000
  crcAcc := 0xFFFF
  txbuf := txbuf
  rxbuf := rxbuf
  link := false
  phase := .idle
  txpos := 0
  pendingStart := false
  deadline := 0
  done := false
  reject := false
  illegal := false
  excess := false
  crcMatch := false
  err := .ok
  excCode := 0x00
  fcMismatch := false
  fallback := false
  params := params
  inputs := inputs
  outputs := outputs

/-- The block's parameters: the free timing and the default FC_CLASS table (R8, R121; log entries 6, 7). -/
def initialParams : Params where
  tickPeriodNs := Config.timing.tickPeriodNs
  defaultTimeoutTicks := Config.timing.defaultTimeoutTicks
  fcTable := defaultFcTable

/-- The machine right after a power-up Reset (R254): buffers never written, Hangup emitted once (R253; log entry 4), no input
chosen yet. -/
def State.reset : State :=
  State.cleared initialParams [] [] [] [.hangup]

end Sys2Proof.Machine
end

