-- ==== Sys2Proof/Machine/Ops.lean ====
section
/-! DEFINITION. The named operations on the state: the buffers, the sticky bits, acceptance and refusal of engine commands,
completion (the block's trap entry), acknowledgement (its trap return), and Reset. -/

namespace Sys2Proof.Machine

/-! ### The byte buffers (10_state.md R37, R38) -/

/-- The byte written last at an index, and none where none has been written since power-up (log entry 8). -/
def Memory.find (m : Memory) (i : Nat) : Option Byte :=
  match m with
  | [] => none
  | (j, b) :: rest => if j = i then some b else Memory.find rest i

/-- Reading an entry: what was written last, else that byte's free value `draw i` (70_reset_and_hazards.md R252). -/
def Memory.read (draw : Nat → Byte) (m : Memory) (i : Nat) : Byte :=
  (m.find i).getD (draw i)

/-- Writing an entry, keeping the indexes strictly rising. -/
def Memory.write (m : Memory) (i : Nat) (b : Byte) : Memory :=
  match m with
  | [] => [(i, b)]
  | (j, c) :: rest =>
    if i < j then (i, b) :: (j, c) :: rest
    else if i = j then (i, b) :: rest
    else (j, c) :: Memory.write rest i b

/-- Every listed index is above `lo`, strictly rising, and one of a buffer's 256. -/
def Memory.risingFrom (lo : Nat) (m : Memory) : Bool :=
  match m with
  | [] => true
  | (j, _) :: rest => decide (lo ≤ j) && decide (j < Config.maxAdu) && Memory.risingFrom (j + 1) rest

/-- The canonical form of a buffer. An unlisted entry reads as no written byte at all, so no entry can equal it. -/
def Memory.wf (m : Memory) : Bool :=
  m.risingFrom 0

/-- TXBUF[i]. -/
def State.txAt (s : State) (i : Nat) : Byte :=
  s.txbuf.read Config.powerUpTxByte i

/-- RXBUF[i]. -/
def State.rxAt (s : State) (i : Nat) : Byte :=
  s.rxbuf.read Config.powerUpRxByte i

/-- TXBUF[0..n). -/
def State.txBytes (s : State) (n : Nat) : List Byte :=
  (List.range n).map s.txAt

/-- RXBUF[0..n). -/
def State.rxBytes (s : State) (n : Nat) : List Byte :=
  (List.range n).map s.rxAt

/-- TXBUF[i] <- b. -/
def State.writeTx (s : State) (i : Nat) (b : Byte) : State :=
  { s with txbuf := s.txbuf.write i b }

/-- RXBUF[i] <- b. -/
def State.writeRx (s : State) (i : Nat) (b : Byte) : State :=
  { s with rxbuf := s.rxbuf.write i b }

/-! ### Outputs and sticky bits -/

/-- emit(o) (00_scope.md R12, R14). -/
def State.emit (s : State) (o : Output) : State :=
  { s with outputs := s.outputs ++ [o] }

/-- REJECT <- 1: all that a refusal does (20_memory.md R69, 43_transport.md R172). -/
def State.markReject (s : State) : State :=
  { s with reject := true }

/-- ILLEGAL <- 1: all that a reserved command word does (30_encoding.md R84). -/
def State.markIllegal (s : State) : State :=
  { s with illegal := true }

/-- EXCESS <- 1: all that a stray received byte does (43_transport.md R179). -/
def State.markExcess (s : State) : State :=
  { s with excess := true }

/-! ### The lock -/

/-- BUSY: the lock is held (10_state.md R40). -/
def State.busy (s : State) : Bool :=
  s.phase != .idle

/-- The test of refused(cmd) (43_transport.md R172); `needsSlave` is `cmd in {ENCODE, DECODE, START}`. -/
def State.refuses (s : State) (needsSlave : Bool) : Bool :=
  s.busy || (needsSlave && !s.slaveSet)

/-- accept(): clears the previous result (43_transport.md R171). -/
def State.accept (s : State) : State :=
  { s with done := false, err := .ok, excCode := 0x00, fcMismatch := false, fallback := false }

/-- DEADLINE <- TIMEOUT: arms the deadline (10_state.md R43). -/
def State.armDeadline (s : State) : State :=
  { s with deadline := s.timeout }

/-! ### Completion and acknowledgement -/

/-- The errors that invalidate the link whenever they are raised (60_exceptions.md R221). -/
def ErrCode.alwaysTransport (e : ErrCode) : Bool :=
  e == .connectionError || e == .writeError || e == .readError || e == .timeoutError

/-- Whether completing with `e` in PHASE `p` invalidates the link (R221, R226). -/
def ErrCode.invalidates (e : ErrCode) (p : Phase) : Bool :=
  e.alwaysTransport || (e == .lengthError && p == .rx)

/-- complete(e), the one place where ERR is written and DONE is set: the block's trap entry (60_exceptions.md R226). -/
def State.complete (s : State) (e : ErrCode) : State :=
  { s with
    err := e
    done := true
    link := s.link && !e.invalidates s.phase
    outputs := if e.invalidates s.phase then s.outputs ++ [.hangup] else s.outputs
    phase := .idle
    pendingStart := false
    deadline := 0 }

/-- A host write of `v` to STATUS: write-one-to-clear, and the acknowledgement of a completion (10_state.md R24,
60_exceptions.md R229). -/
def State.acknowledge (s : State) (v : Word) : State :=
  { s with
    done := s.done && !v.getLsbD 1
    reject := s.reject && !v.getLsbD 3
    illegal := s.illegal && !v.getLsbD 4
    excess := s.excess && !v.getLsbD 6 }

/-- The Reset event: every element at its reset value, the buffers kept, Hangup emitted once (70_reset_and_hazards.md R250,
R252, R253). The parameters and the inputs to come are no element of the block's state (log entry 5). -/
def State.resetEvent (s : State) : State :=
  State.cleared s.params s.txbuf s.rxbuf s.inputs (s.outputs ++ [.hangup])

end Sys2Proof.Machine
end

