-- ==== Sys2Proof/Machine/Operands.lean ====
section
/-! DEFINITION. What the rules compute from bytes: the CRC16-Modbus function (40_crc.md R100 to R110), the request frame
(42_codec.md R140), the PDU view (R145), and the length dispatch (41_length_dispatch.md R122 to R129). -/

namespace Sys2Proof.Machine

/-! ### CRC16-Modbus -/

/-- One shift step of R101: shift right, and XOR with 0xA001 if the low bit was set. -/
def crcShift (acc : Half) : Half :=
  if acc.getLsbD 0 then (acc >>> 1) ^^^ 0xA001#16 else acc >>> 1

/-- `n` shift steps. -/
def crcShifts (n : Nat) (acc : Half) : Half :=
  match n with
  | 0 => acc
  | k + 1 => crcShifts k (crcShift acc)

/-- crc_step(acc, b): XOR the byte into the low byte, then 8 shift steps (R101). -/
def crcStep (acc : Half) (b : Byte) : Half :=
  crcShifts 8 (acc ^^^ b.zeroExtend 16)

/-- Folding a byte sequence into an accumulator. -/
def crcFold (acc : Half) (bytes : List Byte) : Half :=
  bytes.foldl crcStep acc

/-- crc16(s) (R100). -/
def crc16 (bytes : List Byte) : Half :=
  crcFold 0xFFFF bytes

/-- le16(lo, hi): the value of a 16-bit number sent low byte first (00_scope.md R15). -/
def le16 (lo hi : Byte) : Half :=
  lo.zeroExtend 16 ||| (hi.zeroExtend 16 <<< 8)

/-- v[7:0] of a CRC: the byte sent first (20_memory.md R72). -/
def crcLow (c : Half) : Byte :=
  c.extractLsb' 0 8

/-- v[15:8] of a CRC: the byte sent last (20_memory.md R72). -/
def crcHigh (c : Half) : Byte :=
  c.extractLsb' 8 8

/-- A CRC's two wire bytes, low byte first (40_crc.md R102). -/
def crcWire (c : Half) : List Byte :=
  [crcLow c, crcHigh c]

/-- The source's verify(b ‖ crc): the trailing two bytes, low byte first, are the crc16 of the rest (R103, R111). A sequence of
fewer than 2 bytes carries no CRC, and R103 gives it no verdict; DESIGN CHOICE: false for the empty one, and for one byte it
stands for both trailing bytes, so true for 0xFF alone (log entry 18). -/
def crcPasses (frame : List Byte) : Bool :=
  crc16 (frame.take (frame.length - 2)) == le16 (frame.getD (frame.length - 2) 0) (frame.getD (frame.length - 1) 0)

/-- A frame with bit `j` of byte `i` flipped (R111). Where the frame has no byte `i` or a byte no bit `j`, there is nothing to
flip; DESIGN CHOICE: the frame itself (log entry 18). -/
def flipBit (frame : List Byte) (i j : Nat) : List Byte :=
  frame.set i (frame.getD i 0 ^^^ (1#8 <<< j))

/-- T[k] of the table-driven implementation (R110). -/
def crcTable (k : Byte) : Half :=
  crcStep 0x0000 k

/-- crc_step by table (R110): `(acc >> 8) ^ T[(acc ^ b) & 0xFF]`. -/
def crcStepByTable (acc : Half) (b : Byte) : Half :=
  (acc >>> 8) ^^^ crcTable (crcLow acc ^^^ b)

/-! ### The request frame -/

/-- SLAVE ‖ TXFC ‖ TXBUF[0..TXLEN): what the encoder's CRC covers (42_codec.md R141). -/
def State.txBody (s : State) : List Byte :=
  s.slave :: s.txfc :: s.txBytes s.txlen.toNat

/-- txFrame (R140), which R140 gives for TXLEN <= 252 only. DESIGN CHOICE: for a longer TXLEN it is the same expression, with the
free bytes that txAt gives past entry 255 (log entry 17). No step sends it. -/
def State.txFrame (s : State) : List Byte :=
  s.txBody ++ crcWire s.txcrc

/-- txByte(i) (R140), which R140 defines for TXLEN <= 252 and i <= TXLEN + 3 only. DESIGN CHOICE: outside that it is the same
expression: C[15:8] past the frame, and TXBUF[i-2] for a longer TXLEN (log entry 17). No TxPull takes such a byte. -/
def State.txByte (s : State) (i : Nat) : Byte :=
  if i = 0 then s.slave
  else if i = 1 then s.txfc
  else if i ≤ s.txlen.toNat + 1 then s.txAt (i - 2)
  else if i = s.txlen.toNat + 2 then crcLow s.txcrc
  else crcHigh s.txcrc

/-- The handshake output tx_valid (43_transport.md R177). -/
def State.txValid (s : State) : Bool :=
  s.phase == .tx

/-- The handshake output tx_data (43_transport.md R177); outside TX, with tx_valid = 0, TXPOS may lie outside the frame (log
entry 17). -/
def State.txData (s : State) : Byte :=
  s.txByte s.txpos.toNat

/-! ### The PDU view -/

/-- A protocol data unit: function code plus data (00_scope.md R16). -/
structure Pdu where
  functionCode : Byte
  data : List Byte
deriving DecidableEq, Repr

/-- The decoded PDU of RXBUF[0..L): RXBUF[1] and RXBUF[2..L-2) (42_codec.md R145). R145 does not say what the view is where
RXBUF[0..L) is no frame; DESIGN CHOICE: below 4 the data is empty, and above 258 it goes on with the free bytes that rxAt gives
past entry 255 (log entry 16). -/
def State.pduView (s : State) (l : Nat) : Pdu where
  functionCode := s.rxAt 1
  data := (s.rxBytes (l - 2)).drop 2

/-! ### The length dispatch -/

/-- expectedExceptionLength() (41_length_dispatch.md R122). -/
def exceptionLength : Nat := 5

/-- The fixed length of a write response (R125, R126). -/
def writeLength : Nat := 8

/-- The largest byte count whose frame fits MAX_ADU (R129). -/
def maxByteCount : Nat := 251

/-- The length of a READ response with byte count `bc`: 3 + bc + 2 (R124). -/
def readLength (bc : Byte) : Nat :=
  3 + bc.toNat + 2

/-- Q | 0x80: the function code of an exception response (R123). -/
def exceptionCodeOf (q : Byte) : Byte :=
  q ||| 0x80

/-- What dispatch() concludes (R128). -/
inductive LengthDecision where
  /-- RXEXP stays 0. -/
  | wait
  /-- RXEXP <- n; FALLBACK <- 1 if `fallback`. -/
  | expect (n : Nat) (fallback : Bool)
  /-- Returns LENGTH_ERROR. -/
  | lengthError
  /-- RXLEN is outside dispatch()'s precondition. -/
  | outside
deriving DecidableEq, Repr

/-- The decision at byte 2 by the request's class, no exception (R124 to R127). -/
def classDecision (c : FcClass) : LengthDecision :=
  match c with
  | .read => .wait
  | .writeSingle => .expect writeLength false
  | .writeMultiple => .expect writeLength false
  | .other => .expect Config.minAdu true

/-- The decision at byte 3, from the byte count (R124, R129). -/
def countDecision (bc : Byte) : LengthDecision :=
  if bc.toNat > maxByteCount then .lengthError else .expect (readLength bc) false

/-- dispatch() as a function of Q, FC_CLASS(Q), RXLEN, RXBUF[1] and RXBUF[2] (R128). -/
def lengthDecision (q : Byte) (c : FcClass) (rxlen : Nat) (f bc : Byte) : LengthDecision :=
  match rxlen with
  | 1 => .wait
  | 2 => if f = exceptionCodeOf q then .expect exceptionLength false else classDecision c
  | 3 => countDecision bc
  | _ => .outside

/-- FC_CLASS(Q) for Q = TXFC (41_length_dispatch.md R120). -/
def State.txClass (s : State) : FcClass :=
  fcClassOf s.params.fcTable s.txfc

/-- dispatch() on the state, after the received byte has been stored (R128). -/
def State.dispatch (s : State) : LengthDecision :=
  lengthDecision s.txfc s.txClass s.rxlen.toNat (s.rxAt 1) (s.rxAt 2)

end Sys2Proof.Machine
end

