-- ==== Sys2Proof/Machine/Flags.lean ====
section
/-! DEFINITION. The views of the flags: STATUS and ENGINE (10_state.md R23, R34), the error codes (60_exceptions.md R220 to
R223) and the interrupt output (R230, R231). -/

namespace Sys2Proof.Machine

/-- A flag at bit `n` of a host word. -/
def bitAt (b : Bool) (n : Nat) : Word :=
  (BitVec.ofBool b).zeroExtend 32 <<< n

/-- The code of PHASE (10_state.md R40). -/
def Phase.code (p : Phase) : Byte :=
  match p with
  | .idle => 0
  | .connecting => 1
  | .tx => 2
  | .rx => 3

/-- The code of ERR (60_exceptions.md R220). -/
def ErrCode.code (e : ErrCode) : Byte :=
  match e with
  | .ok => 0x00
  | .connectionError => 0x01
  | .writeError => 0x02
  | .readError => 0x03
  | .timeoutError => 0x04
  | .frameTooShort => 0x05
  | .crcMismatch => 0x06
  | .exceptionResponse => 0x07
  | .payloadTooLong => 0x08
  | .addressMismatch => 0x09
  | .lengthError => 0x0A

/-- The value a read of STATUS returns (10_state.md R23). -/
def State.statusWord (s : State) : Word :=
  bitAt s.busy 0 ||| bitAt s.done 1 ||| bitAt s.link 2 ||| bitAt s.reject 3 ||| bitAt s.illegal 4 |||
    bitAt s.crcMatch 5 ||| bitAt s.excess 6 ||| bitAt s.fcMismatch 7 ||| bitAt s.fallback 8 |||
    (s.err.code.zeroExtend 32 <<< 16) ||| (s.excCode.zeroExtend 32 <<< 24)

/-- The value a read of ENGINE returns (10_state.md R34). -/
def State.engineWord (s : State) : Word :=
  s.phase.code.zeroExtend 32 ||| bitAt s.pendingStart 2 ||| bitAt s.slaveSet 3 ||| (s.txpos.zeroExtend 32 <<< 8)

/-- ATTN = REJECT | ILLEGAL | EXCESS (60_exceptions.md R230). -/
def State.attention (s : State) : Bool :=
  s.reject || s.illegal || s.excess

/-- The level output irq (60_exceptions.md R231). -/
def State.irq (s : State) : Bool :=
  (s.done && s.irqEn.getLsbD 0) || (s.attention && s.irqEn.getLsbD 1)

/-- What a host can tell of a failure (60_exceptions.md R223). -/
inductive FailureKind where
  /-- "could not talk to the device" -/
  | couldNotTalk
  /-- "device rejected the request" -/
  | deviceRejected
  /-- "response was corrupted" -/
  | corrupted
  /-- PAYLOAD_TOO_LONG: no exchange took place. -/
  | localEncoding
deriving DecidableEq, Repr

/-- The kind of failure a code reports, and none for OK (60_exceptions.md R223). -/
def ErrCode.failureKind (e : ErrCode) : Option FailureKind :=
  match e with
  | .ok => none
  | .connectionError => some .couldNotTalk
  | .writeError => some .couldNotTalk
  | .readError => some .couldNotTalk
  | .timeoutError => some .couldNotTalk
  | .frameTooShort => some .corrupted
  | .crcMismatch => some .corrupted
  | .exceptionResponse => some .deviceRejected
  | .payloadTooLong => some .localEncoding
  | .addressMismatch => some .corrupted
  | .lengthError => some .corrupted

end Sys2Proof.Machine
end

