-- ==== Sys2Proof/Machine/Codec.lean ====
section
/-! DEFINITION. The frame codec: the encoder's CRC, the verifier, and the commands ENCODE and DECODE (42_codec.md). -/

namespace Sys2Proof.Machine

/-- The payload check: "Fails only if data exceeds the maximum payload size" (R142). -/
def State.payloadTooLong (s : State) : Bool :=
  decide (s.txlen.toNat > Config.maxData)

/-- TXCRC <- crc16(SLAVE ‖ TXFC ‖ TXBUF[0..TXLEN)) (R141). -/
def State.encodeCrc (s : State) : State :=
  { s with txcrc := crc16 s.txBody }

/-- What verify(L) returns and writes (R143). -/
structure Verdict where
  err : ErrCode
  rxcrc : Half
  excCode : Byte
  fcMismatch : Bool
deriving DecidableEq, Repr

/-- The verdict that writes nothing but returns `e`. -/
def State.verdictKeeping (s : State) (e : ErrCode) : Verdict :=
  ⟨e, s.rxcrc, s.excCode, s.fcMismatch⟩

/-- The checks behind the CRC check: address, exception and its length, function code (R143, R146 to R148). -/
def State.verifyContent (s : State) (l : Nat) (c : Half) : Verdict :=
  if s.rxAt 0 ≠ s.slave then ⟨.addressMismatch, c, s.excCode, s.fcMismatch⟩
  else if s.rxAt 1 = exceptionCodeOf s.txfc then
    if l ≠ exceptionLength then ⟨.lengthError, c, s.excCode, s.fcMismatch⟩
    else ⟨.exceptionResponse, c, s.rxAt 2, s.fcMismatch⟩
  else ⟨.ok, c, s.excCode, s.rxAt 1 != s.txfc⟩

/-- The checks behind the length checks: the CRC, then the content (R143). -/
def State.verifyCrc (s : State) (l : Nat) (c : Half) : Verdict :=
  if c ≠ le16 (s.rxAt (l - 2)) (s.rxAt (l - 1)) then ⟨.crcMismatch, c, s.excCode, s.fcMismatch⟩
  else s.verifyContent l c

/-- verify(L) of the frame RXBUF[0..L) (R143, R144). -/
def State.verify (s : State) (l : Nat) : Verdict :=
  if l < Config.minAdu then s.verdictKeeping .frameTooShort
  else if l > Config.maxAdu then s.verdictKeeping .lengthError
  else s.verifyCrc l (crc16 (s.rxBytes (l - 2)))

/-- What a verdict writes: RXCRC, EXC_CODE and FC_MISMATCH (R143). -/
def State.applyVerdict (s : State) (v : Verdict) : State :=
  { s with rxcrc := v.rxcrc, excCode := v.excCode, fcMismatch := v.fcMismatch }

/-- complete(verify(L)) (R151, 43_transport.md R180). -/
def State.completeVerify (s : State) (l : Nat) : State :=
  (s.applyVerdict (s.verify l)).complete (s.verify l).err

/-- ENCODE once accepted (R150). -/
def State.runEncode (s : State) : State :=
  if s.payloadTooLong then s.complete .payloadTooLong else s.encodeCrc.complete .ok

/-- ENCODE (R150). -/
def execEncode (s : State) : Host.Outcome State Fault Refusal :=
  if s.refuses true then .next s.markReject else .next s.accept.runEncode

/-- DECODE (R151). -/
def execDecode (s : State) : Host.Outcome State Fault Refusal :=
  if s.refuses true then .next s.markReject else .next (s.accept.completeVerify s.rxlen.toNat)

end Sys2Proof.Machine
end

