-- ==== Sys2Proof/Machine/Crc.lean ====
section
/-! DEFINITION. The host commands: NOP and the host CRC unit (40_crc.md R104 to R107). They are never refused. -/

namespace Sys2Proof.Machine

/-- NOP: no state changes (R104). -/
def execNop (s : State) : Host.Outcome State Fault Refusal :=
  .next s

/-- CRC_INIT: CRC_ACC <- 0xFFFF (R105). -/
def execCrcInit (s : State) : Host.Outcome State Fault Refusal :=
  .next { s with crcAcc := 0xFFFF }

/-- CRC_BYTE b: CRC_ACC <- crc_step(CRC_ACC, b) (R106). -/
def execCrcByte (b : Byte) (s : State) : Host.Outcome State Fault Refusal :=
  .next { s with crcAcc := crcStep s.crcAcc b }

/-- CRC_VERIFY h: CRC_MATCH <- (CRC_ACC == h) (R107). -/
def execCrcVerify (h : Half) (s : State) : Host.Outcome State Fault Refusal :=
  .next { s with crcMatch := s.crcAcc == h }

end Sys2Proof.Machine
end

