-- ==== Sys2Proof/Machine/Transport.lean ====
section
/-! DEFINITION. The exchange and connection commands START, CONNECT and CLOSE (43_transport.md R173 to R175). -/

namespace Sys2Proof.Machine

/-- TXPOS <- 0; RXLEN <- 0; RXEXP <- 0 (R173). -/
def State.rewind (s : State) : State :=
  { s with txpos := 0, rxlen := 0, rxexp := 0 }

/-- PHASE <- CONNECTING; PENDING_START <- pending; emit(Dial) (R173, R174). -/
def State.dial (s : State) (pending : Bool) : State :=
  { s with phase := .connecting, pendingStart := pending, outputs := s.outputs ++ [.dial] }

/-- PHASE <- TX (R173, R181). -/
def State.enterTx (s : State) : State :=
  { s with phase := .tx }

/-- START past its payload check (R173). -/
def State.beginExchange (s : State) : State :=
  if s.link then s.encodeCrc.rewind.armDeadline.enterTx else s.encodeCrc.rewind.armDeadline.dial true

/-- START once accepted (R173). -/
def State.runStart (s : State) : State :=
  if s.payloadTooLong then s.complete .payloadTooLong else s.beginExchange

/-- CONNECT once accepted (R174). -/
def State.runConnect (s : State) : State :=
  if s.link then s.complete .ok else s.armDeadline.dial false

/-- LINK <- 0; emit(Hangup) (R175). -/
def State.hangUp (s : State) : State :=
  { s with link := false, outputs := s.outputs ++ [.hangup] }

/-- CLOSE once accepted (R175). -/
def State.runClose (s : State) : State :=
  if s.link then s.hangUp.complete .ok else s.complete .ok

/-- START (R173). -/
def execStart (s : State) : Host.Outcome State Fault Refusal :=
  if s.refuses true then .next s.markReject else .next s.accept.runStart

/-- CONNECT (R174): it needs no SLAVE_SET. -/
def execConnect (s : State) : Host.Outcome State Fault Refusal :=
  if s.refuses false then .next s.markReject else .next s.accept.runConnect

/-- CLOSE (R175): it needs no SLAVE_SET. -/
def execClose (s : State) : Host.Outcome State Fault Refusal :=
  if s.refuses false then .next s.markReject else .next s.accept.runClose

end Sys2Proof.Machine
end

