-- ==== Sys2Proof/Machine/HostBus.lean ====
section
/-! DEFINITION. The host bus: address decode, reads and writes (20_memory.md R60 to R70). A write to CMD is Machine/Command.lean's. -/

namespace Sys2Proof.Machine

/-- The registers of the map (10_state.md R21). -/
inductive Reg where
  | cmd
  | status
  | irqEn
  | slave
  | timeout
  | txfc
  | txlen
  | txcrc
  | rxlen
  | rxexp
  | rxcrc
  | crcAcc
  | engine
  | deadline
deriving DecidableEq, Repr

/-- A register's byte offset (10_state.md R21). -/
def Reg.offset (r : Reg) : HostAddr :=
  match r with
  | .cmd => 0x000
  | .status => 0x004
  | .irqEn => 0x008
  | .slave => 0x00C
  | .timeout => 0x010
  | .txfc => 0x014
  | .txlen => 0x018
  | .txcrc => 0x01C
  | .rxlen => 0x020
  | .rxexp => 0x024
  | .rxcrc => 0x028
  | .crcAcc => 0x02C
  | .engine => 0x030
  | .deadline => 0x034

/-- Every register. -/
def Reg.all : List Reg :=
  [.cmd, .status, .irqEn, .slave, .timeout, .txfc, .txlen, .txcrc, .rxlen, .rxexp, .rxcrc, .crcAcc, .engine, .deadline]

/-- What a host word is (20_memory.md R64). -/
inductive BusTarget where
  | reg (r : Reg)
  | txbuf (i : Nat)
  | rxbuf (i : Nat)
  | unmapped
deriving DecidableEq, Repr

/-- addr & ~3: the block ignores addr[1:0] (20_memory.md R62). -/
def wordAddr (a : HostAddr) : HostAddr :=
  a &&& 0xFFC

/-- The register of a word address, if it is one's offset. -/
def regAt (a : HostAddr) : Option Reg :=
  Reg.all.find? (fun r => r.offset == a)

/-- The buffer index of a word address: bits 9:2 (20_memory.md R64). -/
def bufferIndex (a : HostAddr) : Nat :=
  (a.extractLsb' 2 8).toNat

/-- The address map (20_memory.md R64): TXBUF at 0x400 + 4*i, RXBUF at 0x800 + 4*i, a register at its offset. -/
def busTarget (a : HostAddr) : BusTarget :=
  if a.extractLsb' 10 2 = 1#2 then .txbuf (bufferIndex a)
  else if a.extractLsb' 10 2 = 2#2 then .rxbuf (bufferIndex a)
  else
    match regAt (wordAddr a) with
    | some r => .reg r
    | none => .unmapped

/-- The address of a target: the word R21 and R64 give it, and none for an unmapped one. -/
def BusTarget.addr (t : BusTarget) : Option HostAddr :=
  match t with
  | .reg r => some r.offset
  | .txbuf i => if i < Config.maxAdu then some (BitVec.ofNat 12 (0x400 + 4 * i)) else none
  | .rxbuf i => if i < Config.maxAdu then some (BitVec.ofNat 12 (0x800 + 4 * i)) else none
  | .unmapped => none

/-- The value a read of a register returns (10_state.md R22 to R36). -/
def State.readReg (s : State) (r : Reg) : Word :=
  match r with
  | .cmd => 0
  | .status => s.statusWord
  | .irqEn => s.irqEn.zeroExtend 32
  | .slave => s.slave.zeroExtend 32
  | .timeout => s.timeout
  | .txfc => s.txfc.zeroExtend 32
  | .txlen => s.txlen.zeroExtend 32
  | .txcrc => s.txcrc.zeroExtend 32
  | .rxlen => s.rxlen.zeroExtend 32
  | .rxexp => s.rxexp.zeroExtend 32
  | .rxcrc => s.rxcrc.zeroExtend 32
  | .crcAcc => s.crcAcc.zeroExtend 32
  | .engine => s.engineWord
  | .deadline => s.deadline

/-- The value a read of a host word returns (20_memory.md R64 to R66, R70). -/
def State.readTarget (s : State) (t : BusTarget) : Word :=
  match t with
  | .reg r => s.readReg r
  | .txbuf i => (s.txAt i).zeroExtend 32
  | .rxbuf i => (s.rxAt i).zeroExtend 32
  | .unmapped => 0

/-- MemRead(addr, 4) (00_scope.md R12). -/
def State.busRead (s : State) (a : HostAddr) : Word :=
  s.readTarget (busTarget a)

/-- HostRead(addr): answers ReadData and changes nothing else (20_memory.md R61, R67). -/
def onHostRead (a : HostAddr) (s : State) : State :=
  s.emit (.readData (s.busRead a))

/-- The targets whose writes are refused while BUSY (20_memory.md R69). -/
def BusTarget.isProtected (t : BusTarget) : Bool :=
  match t with
  | .reg .slave => true
  | .reg .txfc => true
  | .reg .txlen => true
  | .reg .rxlen => true
  | .txbuf _ => true
  | .rxbuf _ => true
  | _ => false

/-- A write that is not refused, to a register other than CMD. CMD has no storage (10_state.md R22); RO registers ignore
writes (20_memory.md R66). -/
def State.storeReg (s : State) (r : Reg) (v : Word) : State :=
  match r with
  | .cmd => s
  | .status => s.acknowledge v
  | .irqEn => { s with irqEn := v.extractLsb' 0 2 }
  | .slave => { s with slave := v.extractLsb' 0 8, slaveSet := true }
  | .timeout => { s with timeout := v }
  | .txfc => { s with txfc := v.extractLsb' 0 8 }
  | .txlen => { s with txlen := v.extractLsb' 0 16 }
  | .txcrc => s
  | .rxlen => { s with rxlen := v.extractLsb' 0 9 }
  | .rxexp => s
  | .rxcrc => s
  | .crcAcc => { s with crcAcc := v.extractLsb' 0 16 }
  | .engine => s
  | .deadline => s

/-- A write that is not refused, to anything but CMD (20_memory.md R65, R68, R70). -/
def State.storeTarget (s : State) (t : BusTarget) (v : Word) : State :=
  match t with
  | .reg r => s.storeReg r v
  | .txbuf i => s.writeTx i (v.extractLsb' 0 8)
  | .rxbuf i => s.writeRx i (v.extractLsb' 0 8)
  | .unmapped => s

/-- HostWrite to anything but CMD: refused if BUSY and protected, else stored (20_memory.md R68, R69). -/
def onStore (t : BusTarget) (v : Word) (s : State) : State :=
  if s.busy && t.isProtected then s.markReject else s.storeTarget t v

end Sys2Proof.Machine
end

