-- ==== Sys2Proof/Machine/Streams.lean ====
section
/-! DEFINITION. The environment's events: the byte streams (43_transport.md R176 to R180), the link (R181 to R183) and the
deadline (R184, R185). -/

namespace Sys2Proof.Machine

/-- TxPull finds its byte in the frame: TXLEN <= 252 and TXPOS <= TXLEN + 3 (10_state.md R45; log entry 9). -/
def State.txInFrame (s : State) : Bool :=
  decide (s.txlen.toNat ≤ Config.maxData) && decide (s.txpos.toNat ≤ s.txlen.toNat + 3)

/-- The move after a byte is handed over: PHASE <- RX after the last one, else TXPOS <- TXPOS + 1 (R176). -/
def State.advanceTx (s : State) : State :=
  if s.txpos.toNat = s.txlen.toNat + 3 then { s with phase := .rx } else { s with txpos := s.txpos + 1 }

/-- TxPull (R176, R177). -/
def onTxPull (s : State) : Host.Outcome State Fault Refusal :=
  if s.phase ≠ .tx then .next s
  else if s.txInFrame then .next (s.emit (.txByte (s.txByte s.txpos.toNat))).advanceTx
  else .fault .txFrameOverrun

/-- RXBUF[RXLEN] <- b; RXLEN <- RXLEN + 1 (R178). -/
def State.storeRx (s : State) (b : Byte) : State :=
  { s with rxbuf := s.rxbuf.write s.rxlen.toNat b, rxlen := s.rxlen + 1 }

/-- What dispatch() writes when it finds the length: RXEXP, and FALLBACK <- 1 on the OTHER path (41_length_dispatch.md R128). -/
def State.expectLength (s : State) (n : Nat) (fb : Bool) : State :=
  { s with rxexp := BitVec.ofNat 9 n, fallback := s.fallback || fb }

/-- `if RXEXP != 0 and RXLEN == RXEXP: complete(verify(RXLEN))` (R178, R180). -/
def State.finishRx (s : State) : State :=
  if s.rxexp ≠ 0 ∧ s.rxlen = s.rxexp then s.completeVerify s.rxlen.toNat else s

/-- The rest of an RxByte step once the byte is stored and the length is still unknown (R178). -/
def State.sizeRx (s : State) : Host.Outcome State Fault Refusal :=
  match s.dispatch with
  | .wait => .next s.finishRx
  | .expect n fb => .next (s.expectLength n fb).finishRx
  | .lengthError => .next (s.complete .lengthError)
  | .outside => .fault .dispatchPrecondition

/-- The rest of an RxByte step once the byte is stored (R178). -/
def State.reassemble (s : State) : Host.Outcome State Fault Refusal :=
  if s.rxexp = 0 then s.sizeRx else .next s.finishRx

/-- RxByte(b) (R178, R179). -/
def onRxByte (b : Byte) (s : State) : Host.Outcome State Fault Refusal :=
  if s.phase ≠ .rx then .next s.markExcess
  else if s.rxlen.toNat < Config.maxAdu then (s.storeRx b).reassemble
  else .fault .rxbufOverrun

/-- ConnectOk in CONNECTING for a START that waits (R181). -/
def State.linkUpForStart (s : State) : State :=
  { s with link := true, pendingStart := false, phase := .tx, deadline := s.timeout }

/-- ConnectOk (R181). -/
def onConnectOk (s : State) : State :=
  if s.phase ≠ .connecting then s
  else if s.pendingStart then s.linkUpForStart
  else { s with link := true }.complete .ok

/-- ConnectFail (R182). -/
def onConnectFail (s : State) : State :=
  if s.phase = .connecting then s.complete .connectionError else s

/-- LinkDown (R183). -/
def onLinkDown (s : State) : State :=
  match s.phase with
  | .connecting => s.complete .connectionError
  | .tx => s.complete .writeError
  | .rx => s.complete .readError
  | .idle => { s with link := false }

/-- expire(), called on the Tick that takes DEADLINE to 0 (R185); in IDLE nothing calls it. -/
def State.expire (s : State) : State :=
  match s.phase with
  | .connecting => s.complete .connectionError
  | .tx => s.complete .timeoutError
  | .rx => s.complete .timeoutError
  | .idle => s

/-- DEADLINE <- DEADLINE - 1 (R184). -/
def State.countDown (s : State) : State :=
  { s with deadline := s.deadline - 1 }

/-- Tick (R184). -/
def onTick (s : State) : State :=
  if s.phase = .idle ∨ s.deadline = 0 then s
  else if s.countDown.deadline = 0 then s.countDown.expire
  else s.countDown

end Sys2Proof.Machine
end

