-- ==== Sys2Proof/Machine/Command.lean ====
section
/-! DEFINITION. A write to CMD, and the effect of each input event (00_scope.md R13). -/

namespace Sys2Proof.Machine

/-- A host write of `v` to CMD: decoded and executed in the same step; a reserved word does ILLEGAL <- 1 and nothing else
(30_encoding.md R80, R84). -/
def writeCmd (v : Word) (s : State) : Host.Outcome State Fault Refusal :=
  match decode v with
  | .ok i => exec i s
  | .error _ => .next s.markIllegal

/-- HostWrite(addr, v) (20_memory.md R61, R68). -/
def onHostWrite (a : HostAddr) (v : Word) (s : State) : Host.Outcome State Fault Refusal :=
  match busTarget a with
  | .reg .cmd => writeCmd v s
  | t => .next (onStore t v s)

/-- The effect of one input event (00_scope.md R13). -/
def handleEvent (e : Event) (s : State) : Host.Outcome State Fault Refusal :=
  match e with
  | .reset => .next s.resetEvent
  | .hostRead a => .next (onHostRead a s)
  | .hostWrite a v => onHostWrite a v s
  | .txPull => onTxPull s
  | .rxByte b => onRxByte b s
  | .connectOk => .next (onConnectOk s)
  | .connectFail => .next (onConnectFail s)
  | .linkDown => .next (onLinkDown s)
  | .tick => .next (onTick s)

end Sys2Proof.Machine
end

