-- ==== Sys2Proof/Machine/Step.lean ====
section
/-! DEFINITION. One step: the oldest input event is consumed (00_scope.md R13). -/

namespace Sys2Proof.Machine

/-- One step consumes the oldest input event. With none to come the block holds its state (60_exceptions.md R236). -/
def step (s : State) : Host.Outcome State Fault Refusal :=
  match s.inputs with
  | [] => .next s
  | e :: rest => handleEvent e { s with inputs := rest }

/-- `s` with the command word as the next input event: the block fetches nothing, and a command is the host's write to CMD
(10_state.md R22, R48; log entry 3). -/
def State.withFetchWord (s : State) (nbits w : Nat) : State :=
  { s with inputs := .hostWrite Reg.cmd.offset (commandWord nbits w) :: s.inputs }

end Sys2Proof.Machine
end

