-- ==== Sys2Proof/Machine/Assembler.lean ====
section
/-! DEFINITION. The assembler syntax and its pseudo-instructions (30_encoding.md R85, R86): a line stands for input events. -/

namespace Sys2Proof.Machine

/-- A name that WR and RD take: a register, TXBUF[i] or RXBUF[i] (R85). -/
inductive AsmName where
  | reg (r : Reg)
  | txbuf (i : Fin 256)
  | rxbuf (i : Fin 256)
deriving DecidableEq, Repr

/-- The offset of a name (R85, 20_memory.md R64). -/
def AsmName.offset (n : AsmName) : HostAddr :=
  match n with
  | .reg r => r.offset
  | .txbuf i => BitVec.ofNat 12 (0x400 + 4 * i.val)
  | .rxbuf i => BitVec.ofNat 12 (0x800 + 4 * i.val)

/-- The environment's input events, as ENV lines name them (R85). -/
inductive EnvEvent where
  | txPull
  | rxByte (b : Byte)
  | connectOk
  | connectFail
  | linkDown
  | tick
  | reset
deriving DecidableEq, Repr

/-- The event of an ENV line. -/
def EnvEvent.event (e : EnvEvent) : Event :=
  match e with
  | .txPull => .txPull
  | .rxByte b => .rxByte b
  | .connectOk => .connectOk
  | .connectFail => .connectFail
  | .linkDown => .linkDown
  | .tick => .tick
  | .reset => .reset

/-- A line of a program (R85) or a pseudo-instruction (R86). -/
inductive AsmLine where
  /-- A command line: `NOP` to `CLOSE`, `CRC_BYTE b`, `CRC_VERIFY h`. -/
  | command (i : Instr)
  | wr (n : AsmName) (v : Word)
  | rd (n : AsmName)
  | env (e : EnvEvent)
  | crcFeed (bytes : List Byte)
  | crcCheck0
  | loadPdu (fc : Byte) (data : List Byte)
  | loadRx (bytes : List Byte)
  | ack
  | pull (k : Nat)
  | recv (bytes : List Byte)
deriving DecidableEq, Repr

/-- The host write of a command (R85). -/
def commandEvent (i : Instr) : Event :=
  .hostWrite Reg.cmd.offset (encode i)

/-- The host write of a WR line (R85). -/
def wrEvent (n : AsmName) (v : Word) : Event :=
  .hostWrite n.offset v

/-- `WR buf[i], d0` ... `WR buf[i+n-1], dn-1`, for a buffer at `base` (R86). R21 names an entry only for an index below 256, so
the spec gives a line with more than 256 bytes no expansion; DESIGN CHOICE: the address runs on, 4 per byte, in 12 bits
(log entry 15). -/
def fillEvents (base i : Nat) (bytes : List Byte) : List Event :=
  match bytes with
  | [] => []
  | b :: rest => .hostWrite (BitVec.ofNat 12 (base + 4 * i)) (b.zeroExtend 32) :: fillEvents base (i + 1) rest

/-- The events a line expands to, in order (R85, R86). -/
def AsmLine.events (l : AsmLine) : List Event :=
  match l with
  | .command i => [commandEvent i]
  | .wr n v => [wrEvent n v]
  | .rd n => [.hostRead n.offset]
  | .env e => [e.event]
  | .crcFeed bytes => bytes.map (fun b => commandEvent (.crcByte b))
  | .crcCheck0 => [commandEvent (.crcVerify 0x0000)]
  | .loadPdu fc data =>
    wrEvent (.reg .txfc) (fc.zeroExtend 32) :: wrEvent (.reg .txlen) (BitVec.ofNat 32 data.length) :: fillEvents 0x400 0 data
  | .loadRx bytes => fillEvents 0x800 0 bytes ++ [wrEvent (.reg .rxlen) (BitVec.ofNat 32 bytes.length)]
  | .ack => [wrEvent (.reg .status) 0x0000005A]
  | .pull k => List.replicate k .txPull
  | .recv bytes => bytes.map Event.rxByte

/-- The events of a program. -/
def asmEvents (lines : List AsmLine) : List Event :=
  lines.flatMap AsmLine.events

end Sys2Proof.Machine
end

