-- ==== Sys2Proof/Machine/ClockCycle.lean ====
section
/-! DEFINITION. The order in which a clocked implementation applies the events of one clock cycle (60_exceptions.md R225). -/

namespace Sys2Proof.Machine

/-- The link layer's answer to a Dial. -/
inductive DialAnswer where
  | ok
  | fail
deriving DecidableEq, Repr

/-- The host's access of a cycle. -/
inductive HostAccess where
  | read (addr : HostAddr)
  | write (addr : HostAddr) (v : Word)
deriving DecidableEq, Repr

/-- The events that arrive in one clock cycle: at most one of each of R225's seven kinds (log entry 12). -/
structure ClockCycle where
  reset : Bool
  txPull : Bool
  rxByte : Option Byte
  answer : Option DialAnswer
  linkDown : Bool
  tick : Bool
  access : Option HostAccess
deriving DecidableEq, Repr

/-- The event of a dial answer. -/
def DialAnswer.event (a : DialAnswer) : Event :=
  match a with
  | .ok => .connectOk
  | .fail => .connectFail

/-- The event of a host access. -/
def HostAccess.event (a : HostAccess) : Event :=
  match a with
  | .read addr => .hostRead addr
  | .write addr v => .hostWrite addr v

/-- An event that arrives or does not. -/
def whenArrived (b : Bool) (e : Event) : List Event :=
  if b then [e] else []

/-- The events of a cycle in R225's order: Reset, TxPull, RxByte, ConnectOk / ConnectFail, LinkDown, Tick, host access. -/
def ClockCycle.events (c : ClockCycle) : List Event :=
  whenArrived c.reset .reset ++ whenArrived c.txPull .txPull ++ (c.rxByte.map Event.rxByte).toList ++
    (c.answer.map DialAnswer.event).toList ++ whenArrived c.linkDown .linkDown ++ whenArrived c.tick .tick ++
    (c.access.map HostAccess.event).toList

end Sys2Proof.Machine
end

