-- ==== Sys2Proof/Safety.lean ====
section
/-! DEFINITION. What claims are stated in: the invariants (10_state.md R45 and what they rest on), the environment's duties
(43_transport.md R170), the listed phase moves (R193), and runs over a list of events. -/

namespace Sys2Proof.Machine

/-! ### The invariants the spec lists (10_state.md R45) -/

/-- PHASE = IDLE implies PENDING_START = 0 and DEADLINE = 0. -/
abbrev State.IdleIsQuiet (s : State) : Prop :=
  s.phase = .idle → s.pendingStart = false ∧ s.deadline = 0

/-- PENDING_START = 1 implies PHASE = CONNECTING. -/
abbrev State.PendingMeansConnecting (s : State) : Prop :=
  s.pendingStart = true → s.phase = .connecting

/-- PHASE = TX or PHASE = RX implies LINK = 1. -/
abbrev State.ExchangeHasLink (s : State) : Prop :=
  s.phase = .tx ∨ s.phase = .rx → s.link = true

/-- PHASE = TX implies TXPOS < TXLEN + 4, and TXLEN <= 252. -/
abbrev State.TxInsideFrame (s : State) : Prop :=
  s.phase = .tx → s.txpos.toNat < s.txlen.toNat + 4 ∧ s.txlen.toNat ≤ Config.maxData

/-- PHASE = RX implies RXLEN < 256, and, once RXEXP != 0, 4 <= RXEXP <= 256 and RXLEN < RXEXP. -/
abbrev State.RxInsideFrame (s : State) : Prop :=
  s.phase = .rx → s.rxlen.toNat < Config.maxAdu ∧
    (s.rxexp ≠ 0 → Config.minAdu ≤ s.rxexp.toNat ∧ s.rxexp.toNat ≤ Config.maxAdu ∧ s.rxlen.toNat < s.rxexp.toNat)

/-- PHASE != IDLE implies SLAVE_SET = 1, or the phase is CONNECTING entered by CONNECT. -/
abbrev State.ExchangeHasSlave (s : State) : Prop :=
  s.phase ≠ .idle → s.slaveSet = true ∨ (s.phase = .connecting ∧ s.pendingStart = false)

/-- The six invariants of R45. -/
abbrev State.SpecInv (s : State) : Prop :=
  s.IdleIsQuiet ∧ s.PendingMeansConnecting ∧ s.ExchangeHasLink ∧ s.TxInsideFrame ∧ s.RxInsideFrame ∧ s.ExchangeHasSlave

/-! ### What makes them inductive, and what other rules promise of a busy block -/

/-- The request of an exchange is under way: a START waits for the link, or its frame is being sent. -/
abbrev State.Sending (s : State) : Prop :=
  s.phase = .tx ∨ s.pendingStart = true

/-- While sending, nothing has been received and the payload fits (43_transport.md R173). -/
abbrev State.SendingIsFresh (s : State) : Prop :=
  s.Sending → s.rxlen = 0 ∧ s.rxexp = 0 ∧ s.txlen.toNat ≤ Config.maxData

/-- A START that waits has sent nothing (R173, R182). -/
abbrev State.PendingHasSentNothing (s : State) : Prop :=
  s.pendingStart = true → s.txpos = 0

/-- In RX the whole request has gone out: TXPOS stays at TXLEN + 3 (R176). -/
abbrev State.RxAfterWholeFrame (s : State) : Prop :=
  s.phase = .rx → s.txpos.toNat = s.txlen.toNat + 3 ∧ s.txlen.toNat ≤ Config.maxData

/-- While RXEXP = 0, at most 2 bytes have arrived (43_transport.md R178). -/
abbrev State.UnsizedIsShort (s : State) : Prop :=
  s.phase = .rx → s.rxexp = 0 → s.rxlen.toNat ≤ 2

/-- A length is known from the second byte on, and no earlier (41_length_dispatch.md R128). -/
abbrev State.SizedAfterTwoBytes (s : State) : Prop :=
  s.phase = .rx → s.rxexp ≠ 0 → 2 ≤ s.rxlen.toNat

/-- A reply whose function code is TXFC | 0x80 has been given the length 5 (41_length_dispatch.md R123, 42_codec.md R147). -/
abbrev State.ExceptionIsSized (s : State) : Prop :=
  s.phase = .rx → 2 ≤ s.rxlen.toNat → s.rxAt 1 = exceptionCodeOf s.txfc → s.rxexp = 5

/-- TXCRC covers the request that an exchange sends (42_codec.md R141). -/
abbrev State.CrcCoversRequest (s : State) : Prop :=
  s.Sending ∨ s.phase = .rx → s.txcrc = crc16 s.txBody

/-- While CONNECTING there is no link yet (43_transport.md R173, R174). -/
abbrev State.ConnectingHasNoLink (s : State) : Prop :=
  s.phase = .connecting → s.link = false

/-- While BUSY the result fields read as accept() left them (60_exceptions.md R227). -/
abbrev State.BusyHasNoResult (s : State) : Prop :=
  s.phase ≠ .idle → s.done = false ∧ s.err = .ok ∧ s.excCode = 0 ∧ s.fcMismatch = false

/-- Only dispatch() sets FALLBACK, and it runs in RX (41_length_dispatch.md R128, 60_exceptions.md R227). -/
abbrev State.NoFallbackBeforeRx (s : State) : Prop :=
  s.phase = .connecting ∨ s.phase = .tx → s.fallback = false

/-- EXC_CODE is 0x00 unless ERR is EXCEPTION_RESPONSE (10_state.md R23). -/
abbrev State.ExcCodeOnlyForException (s : State) : Prop :=
  s.err ≠ .exceptionResponse → s.excCode = 0

/-- FC_MISMATCH = 1 only with ERR = OK (42_codec.md R148). -/
abbrev State.MismatchOnlyWhenOk (s : State) : Prop :=
  s.fcMismatch = true → s.err = .ok

/-- Both buffers are in canonical form. -/
abbrev State.BuffersCanonical (s : State) : Prop :=
  s.txbuf.wf = true ∧ s.rxbuf.wf = true

/-- What makes R45 inductive. -/
abbrev State.EngineInv (s : State) : Prop :=
  s.SendingIsFresh ∧ s.PendingHasSentNothing ∧ s.RxAfterWholeFrame ∧ s.UnsizedIsShort ∧ s.SizedAfterTwoBytes ∧
    s.ExceptionIsSized ∧ s.CrcCoversRequest ∧ s.ConnectingHasNoLink

/-- What other rules promise of the result fields. -/
abbrev State.ResultInv (s : State) : Prop :=
  s.BusyHasNoResult ∧ s.NoFallbackBeforeRx ∧ s.ExcCodeOnlyForException ∧ s.MismatchOnlyWhenOk

/-- The invariant of the machine: R45's, what makes it inductive, the result fields', and the buffers' canonical form. -/
abbrev State.Inv (s : State) : Prop :=
  s.SpecInv ∧ s.EngineInv ∧ s.ResultInv ∧ s.BuffersCanonical

/-! ### Events -/

/-- A host write that reaches CMD with the word of `i`. -/
def Event.commands (e : Event) (i : Instr) : Prop :=
  ∃ a v, e = .hostWrite a v ∧ busTarget a = .reg .cmd ∧ decode v = .ok i

/-- The link layer's duties (43_transport.md R170): a dial is answered only while one is outstanding, and a byte comes only
from a connection. R170 forbids the bytes of a connection after its Hangup; DESIGN CHOICE: the model takes every byte with
LINK = 0 for one, so also a byte after a LinkDown in IDLE, which emits no Hangup, and none with LINK = 1 (log entry 13). -/
def State.dutiful (s : State) (e : Event) : Bool :=
  match e with
  | .connectOk => s.phase == .connecting
  | .connectFail => s.phase == .connecting
  | .rxByte _ => s.link
  | _ => true

/-! ### The phase moves (43_transport.md R193) -/

/-- The engine command ended in this step with code `e`. -/
abbrev State.EndedWith (t : State) (e : ErrCode) : Prop :=
  t.phase = .idle ∧ t.done = true ∧ t.err = e

/-- The rows of R193 that change PHASE, from `s` on event `e` to `t`. A command is accepted when SLAVE_SET is as it needs; a row
without a completion leaves DONE at 0, as accept() cleared it (R171), or as it was. -/
def ListedMove (s : State) (e : Event) (t : State) : Prop :=
  match s.phase with
  | .idle =>
    (e.commands .start ∧ s.slaveSet = true ∧ s.txlen.toNat ≤ Config.maxData ∧ s.link = false ∧ t.phase = .connecting ∧
        t.pendingStart = true ∧ t.outputs = s.outputs ++ [.dial] ∧ t.done = false) ∨
      (e.commands .start ∧ s.slaveSet = true ∧ s.txlen.toNat ≤ Config.maxData ∧ s.link = true ∧ t.phase = .tx ∧
        t.outputs = s.outputs ∧ t.done = false) ∨
      (e.commands .connect ∧ s.link = false ∧ t.phase = .connecting ∧ t.pendingStart = false ∧
        t.outputs = s.outputs ++ [.dial] ∧ t.done = false)
  | .connecting =>
    (e = .connectOk ∧ s.pendingStart = true ∧ t.phase = .tx ∧ t.deadline = s.timeout ∧ t.done = s.done) ∨
      (e = .connectOk ∧ s.pendingStart = false ∧ t.EndedWith .ok) ∨
      ((e = .connectFail ∨ e = .linkDown ∨ (e = .tick ∧ s.deadline = 1)) ∧ t.EndedWith .connectionError) ∨
      (e = .reset ∧ t.phase = .idle ∧ t.done = false)
  | .tx =>
    (e = .txPull ∧ s.txpos.toNat = s.txlen.toNat + 3 ∧ t.phase = .rx ∧ t.done = s.done) ∨
      (e = .linkDown ∧ t.EndedWith .writeError) ∨
      (e = .tick ∧ s.deadline = 1 ∧ t.EndedWith .timeoutError) ∨
      (e = .reset ∧ t.phase = .idle ∧ t.done = false)
  | .rx =>
    (∃ b, e = .rxByte b ∧ (s.storeRx b).rxexp = 0 ∧ (s.storeRx b).dispatch = .lengthError ∧ t.EndedWith .lengthError) ∨
      (∃ b, e = .rxByte b ∧ t.rxlen = t.rxexp ∧ t.EndedWith (t.verify t.rxlen.toNat).err) ∨
      (e = .linkDown ∧ t.EndedWith .readError) ∨
      (e = .tick ∧ s.deadline = 1 ∧ t.EndedWith .timeoutError) ∨
      (e = .reset ∧ t.phase = .idle ∧ t.done = false)

/-! ### Runs -/

/-- `k` steps, stopping at the first fault or refusal. -/
def steps (k : Nat) (s : State) : Host.Outcome State Fault Refusal :=
  match k with
  | 0 => .next s
  | n + 1 =>
    match step s with
    | .next t => steps n t
    | .fault r => .fault r
    | .refused r => .refused r

/-- The block run over a list of events, one step each. -/
def State.runEvents (s : State) (events : List Event) : Host.Outcome State Fault Refusal :=
  steps events.length { s with inputs := events }

/-- The block run over a program in the assembler syntax (30_encoding.md R85, R86). -/
def State.runLines (s : State) (lines : List AsmLine) : Host.Outcome State Fault Refusal :=
  s.runEvents (asmEvents lines)

end Sys2Proof.Machine
end

