-- ==== Sys2Proof/Certificates/Slice0/Obligations.lean ====
section
/-! DEFINITION. The statements about the model, each from the numbered rules of spec/. -/

open Sys2Proof Sys2Proof.Machine

/-! ### Encoding -/

/-- 30_encoding.md R80 to R82: for every well-formed command, at every value of its immediate, decoding its word gives it back. -/
def Obligations.DecodeOfEncodeIsTheCommand : Prop :=
  ∀ i : Instr, i.wellFormed = true → decode (encode i) = .ok i

/-- R82, R83: a word that decodes is the encoding of what it decodes to, so no reserved bit is dropped. -/
def Obligations.EncodeOfDecodeIsTheWord : Prop :=
  ∀ (w : Word) (i : Instr), decode w = .ok i → encode i = w

/-- R83, R84: a word is reserved exactly when its OP is unknown or a reserved field is nonzero, and writing it to CMD does
ILLEGAL <- 1 and nothing else. -/
def Obligations.ReservedWordsOnlyFlagIllegal : Prop :=
  ∀ (w : Word) (a : HostAddr) (s : State),
    ((∃ r, decode w = .error r) ↔ (wordFields w).wellFormed = false) ∧
      (a &&& 0xFFC = 0 → (wordFields w).wellFormed = false →
        handleEvent (.hostWrite a w) s = .next { s with illegal := true })

/-- R80: "Exactly one row matches any word, or none does". -/
def Obligations.AtMostOneRowMatches : Prop :=
  ∀ w : Word, (opTable.filter (·.hits w)).length ≤ 1

/-- R82's encodings, written out bit by bit for all nine commands, decode to them (sanity). -/
def Obligations.WrittenOutWordsDecode : Prop :=
  decode 0b00000000000000000000000000000000#32 = .ok .nop ∧
    decode 0b00000000000000000000000000000001#32 = .ok .crcInit ∧
    decode 0b00000000000000001100010000000010#32 = .ok (.crcByte 0xC4) ∧
    decode 0b00001011110001000000000000000011#32 = .ok (.crcVerify 0x0BC4) ∧
    decode 0b00000000000000000000000000010000#32 = .ok .encode ∧
    decode 0b00000000000000000000000000010001#32 = .ok .decode ∧
    decode 0b00000000000000000000000000010010#32 = .ok .start ∧
    decode 0b00000000000000000000000000100000#32 = .ok .connect ∧
    decode 0b00000000000000000000000000100001#32 = .ok .close

/-! ### The step -/

/-- 10_state.md R22: when the next event is a host write to CMD of a word that decodes to `i`, the step is `exec i`, on the
state whose inputs are the rest; a host read of CMD returns 0x00000000 and has no effect. -/
def Obligations.StepRunsDecodedCommand : Prop :=
  ∀ (s : State) (a : HostAddr) (rest : List Event), a &&& 0xFFC = 0 →
    (∀ (v : Word) (i : Instr), s.inputs = .hostWrite a v :: rest → decode v = .ok i →
        step s = exec i { s with inputs := rest }) ∧
      (s.inputs = .hostRead a :: rest →
        step s = .next { s with inputs := rest, outputs := s.outputs ++ [.readData 0x00000000] })

/-- The model's interface (log entry 3): after withFetchWord the very next step runs exactly that command on `s`. -/
def Obligations.FetchWordRunsNext : Prop :=
  ∀ (s : State) (i : Instr), step (s.withFetchWord 32 (encode i).toNat) = exec i s

/-- 00_scope.md R13: a step consumes exactly one input event, whose effect it is; with none the block holds its state
(60_exceptions.md R236). Outputs are only ever appended (log entry 2). -/
def Obligations.StepConsumesOneEvent : Prop :=
  ∀ s t : State, step s = .next t →
    (s.inputs = [] → t = s) ∧
      (∀ e rest, s.inputs = e :: rest → t.inputs = rest ∧ handleEvent e { s with inputs := rest } = .next t) ∧
      ∃ o, t.outputs = s.outputs ++ o

/-! ### The CRC unit -/

/-- 40_crc.md R104 to R106: NOP, CRC_INIT and CRC_BYTE, in every state (so also while BUSY), their words, and R106's two
worked values. -/
def Obligations.HostCommandResults : Prop :=
  ∀ s : State,
    exec .nop s = .next s ∧
      exec .crcInit s = .next { s with crcAcc := 0xFFFF } ∧
      (∀ b : Byte, exec (.crcByte b) s = .next { s with crcAcc := crcStep s.crcAcc b }) ∧
      encode .nop = 0x00000000 ∧ encode .crcInit = 0x00000001 ∧ (∀ b : Byte, encode (.crcByte b) = 0x0000#16 ++ b ++ 0x02#8) ∧
      crcStep 0xFFFF 0x00 = 0x40BF ∧ crcStep 0xFFFF 0x01 = 0x807E

/-- R107: CRC_VERIFY writes CRC_MATCH only; and the two ways to check a frame agree: feeding the trailing bytes leaves 0
exactly when they are the accumulator, low byte first. -/
def Obligations.CrcVerifyBothWaysAgree : Prop :=
  (∀ (h : Half) (s : State),
      encode (.crcVerify h) = h ++ 0x00#8 ++ 0x03#8 ∧
        exec (.crcVerify h) s = .next { s with crcMatch := decide (s.crcAcc = h) }) ∧
    ∀ (acc : Half) (c0 c1 : Byte), crcFold acc [c0, c1] = 0 ↔ le16 c0 c1 = acc

/-- R110: the table-driven step is crc_step, for every accumulator and byte. -/
def Obligations.CrcStepMatchesTable : Prop :=
  ∀ (acc : Half) (b : Byte), crcStepByTable acc b = crcStep acc b

/-- R103: the residue of a frame with its own CRC bytes is 0x0000; after the low byte the accumulator is A[15:8]. -/
def Obligations.CrcResidueIsZero : Prop :=
  ∀ bytes : List Byte,
    crc16 (bytes ++ [crcLow (crc16 bytes), crcHigh (crc16 bytes)]) = 0x0000 ∧
      crc16 (bytes ++ [crcLow (crc16 bytes)]) = (crcHigh (crc16 bytes)).zeroExtend 16

/-- R111: flipping any single bit of a frame that carries its own CRC makes the check fail, at every length. -/
def Obligations.SingleBitFlipsAreDetected : Prop :=
  ∀ (body : List Byte) (i j : Nat), i < body.length + 2 → j < 8 →
    crcPasses (body ++ crcWire (crc16 body)) = true ∧
      crcPasses (flipBit (body ++ crcWire (crc16 body)) i j) = false

/-- R109: the host CRC commands never read or write TXCRC or RXCRC, and the engine (its commands, and every stream, link and
clock event) never reads or writes CRC_ACC or CRC_MATCH. -/
def Obligations.CrcUnitIsIndependent : Prop :=
  (∀ (i : Instr) (s : State) (x y : Half), (i = .nop ∨ i = .crcInit ∨ (∃ b, i = .crcByte b) ∨ ∃ h, i = .crcVerify h) →
      ∃ t, exec i s = .next t ∧ t.txcrc = s.txcrc ∧ t.rxcrc = s.rxcrc ∧
        exec i { s with txcrc := x, rxcrc := y } = .next { t with txcrc := x, rxcrc := y }) ∧
    (∀ (i : Instr) (s : State) (a : Half) (m : Bool),
      (i = .encode ∨ i = .decode ∨ i = .start ∨ i = .connect ∨ i = .close) →
      ∃ t, exec i s = .next t ∧ t.crcAcc = s.crcAcc ∧ t.crcMatch = s.crcMatch ∧
        exec i { s with crcAcc := a, crcMatch := m } = .next { t with crcAcc := a, crcMatch := m }) ∧
    ∀ (e : Event) (s t : State) (a : Half) (m : Bool),
      (e = .txPull ∨ (∃ b, e = .rxByte b) ∨ e = .connectOk ∨ e = .connectFail ∨ e = .linkDown ∨ e = .tick) →
      handleEvent e s = .next t →
      t.crcAcc = s.crcAcc ∧ t.crcMatch = s.crcMatch ∧
        handleEvent e { s with crcAcc := a, crcMatch := m } = .next { t with crcAcc := a, crcMatch := m }

/-! ### The codec -/

/-- 42_codec.md R150: ENCODE, in every state: refused; too long; or TXCRC written and completed OK. -/
def Obligations.EncodeCommandResult : Prop :=
  encode .encode = 0x00000010 ∧ ∀ s : State,
    (s.phase ≠ .idle ∨ s.slaveSet = false → exec .encode s = .next { s with reject := true }) ∧
      (s.phase = .idle → s.slaveSet = true → s.txlen.toNat > 252 →
        exec .encode s = .next { s with
          done := true, err := .payloadTooLong, excCode := 0, fcMismatch := false, fallback := false,
          pendingStart := false, deadline := 0 }) ∧
      (s.phase = .idle → s.slaveSet = true → s.txlen.toNat ≤ 252 →
        exec .encode s = .next { s with
          txcrc := crc16 ([s.slave, s.txfc] ++ (List.range s.txlen.toNat).map s.txAt),
          done := true, err := .ok, excCode := 0, fcMismatch := false, fallback := false,
          pendingStart := false, deadline := 0 })

/-- R140: the request frame, byte by byte through txByte, is SLAVE ‖ TXFC ‖ TXBUF[0..n) ‖ C[7:0] ‖ C[15:8], of length n + 4. -/
def Obligations.RequestFrameLayout : Prop :=
  ∀ s : State, s.txlen.toNat ≤ 252 →
    (List.range (s.txlen.toNat + 4)).map s.txByte = s.txFrame ∧
      s.txFrame = [s.slave, s.txfc] ++ (List.range s.txlen.toNat).map s.txAt ++
        [s.txcrc.extractLsb' 0 8, s.txcrc.extractLsb' 8 8] ∧
      s.txFrame.length = s.txlen.toNat + 4

/-- R141 with 40_crc.md R103: an accepted ENCODE whose payload fits leaves a frame that passes its own CRC check. -/
def Obligations.EncodedFramePassesItsCheck : Prop :=
  ∀ s : State, s.phase = .idle → s.slaveSet = true → s.txlen.toNat ≤ 252 →
    ∃ t, exec .encode s = .next t ∧ crcPasses t.txFrame = true ∧ crc16 t.txFrame = 0

/-- R143: verify(L): which code, what it writes, and that it reads nothing but RXBUF[0..L), SLAVE and TXFC and
changes nothing but RXCRC, EXC_CODE and FC_MISMATCH. -/
def Obligations.VerifyChecksInOrder : Prop :=
  ∀ (s : State) (l : Nat),
    ((s.verify l).err = .frameTooShort ↔ l < 4) ∧
      (l > 256 → (s.verify l).err = .lengthError) ∧
      (l < 4 ∨ l > 256 → (s.verify l).rxcrc = s.rxcrc) ∧
      (4 ≤ l → l ≤ 256 →
        (s.verify l).rxcrc = crc16 (s.rxBytes (l - 2)) ∧
          ((s.verify l).err = .crcMismatch ↔ crc16 (s.rxBytes (l - 2)) ≠ le16 (s.rxAt (l - 2)) (s.rxAt (l - 1))) ∧
          (crc16 (s.rxBytes (l - 2)) = le16 (s.rxAt (l - 2)) (s.rxAt (l - 1)) →
            ((s.verify l).err = .addressMismatch ↔ s.rxAt 0 ≠ s.slave) ∧
              (s.rxAt 0 = s.slave →
                ((s.verify l).err = .lengthError ↔ s.rxAt 1 = s.txfc ||| 0x80 ∧ l ≠ 5) ∧
                  ((s.verify l).err = .exceptionResponse ↔ s.rxAt 1 = s.txfc ||| 0x80 ∧ l = 5) ∧
                  ((s.verify l).err = .ok ↔ s.rxAt 1 ≠ s.txfc ||| 0x80)))) ∧
      s.applyVerdict (s.verify l) = { s with
        rxcrc := (s.verify l).rxcrc, excCode := (s.verify l).excCode, fcMismatch := (s.verify l).fcMismatch } ∧
      ((s.verify l).excCode = if (s.verify l).err = .exceptionResponse then s.rxAt 2 else s.excCode) ∧
      ((s.verify l).fcMismatch = if (s.verify l).err = .ok then decide (s.rxAt 1 ≠ s.txfc) else s.fcMismatch) ∧
      ∀ t : State, t.slave = s.slave → t.txfc = s.txfc → (∀ k < l, t.rxAt k = s.rxAt k) →
        (t.verify l).err = (s.verify l).err ∧
          (t.rxcrc = s.rxcrc → t.excCode = s.excCode → t.fcMismatch = s.fcMismatch → t.verify l = s.verify l)

/-- R151: DECODE, in every state: refused; or completed with verify's code, LINK untouched even for LENGTH_ERROR. -/
def Obligations.DecodeCommandResult : Prop :=
  encode .decode = 0x00000011 ∧ ∀ s : State,
    (s.phase ≠ .idle ∨ s.slaveSet = false → exec .decode s = .next { s with reject := true }) ∧
      (s.phase = .idle → s.slaveSet = true →
        exec .decode s = .next { s with
          done := true
          err := (s.verify s.rxlen.toNat).err
          excCode := if (s.verify s.rxlen.toNat).err = .exceptionResponse then s.rxAt 2 else 0
          fcMismatch := decide ((s.verify s.rxlen.toNat).err = .ok ∧ s.rxAt 1 ≠ s.txfc)
          fallback := false
          rxcrc := if 4 ≤ s.rxlen.toNat ∧ s.rxlen.toNat ≤ 256 then crc16 (s.rxBytes (s.rxlen.toNat - 2)) else s.rxcrc
          pendingStart := false
          deadline := 0 })

/-- R152, run through the host bus: load a PDU and an address, ENCODE, copy the frame into RXBUF, DECODE. The PDU view is
the PDU, and ERR is OK whenever fc < 0x80; for fc >= 0x80 the frame is classified as an exception reply. -/
def Obligations.EncodeThenDecodeIsIdentity : Prop :=
  ∀ (s : State) (a fc : Byte) (d : List Byte), s.phase = .idle → d.length ≤ 252 →
    ∃ t v,
      s.runLines [.wr (.reg .slave) (a.zeroExtend 32), .loadPdu fc d, .command .encode] = .next t ∧
        t.err = .ok ∧
        t.runLines [.loadRx t.txFrame, .command .decode] = .next v ∧
        v.pduView v.rxlen.toNat = ⟨fc, d⟩ ∧
        (fc.toNat < 0x80 → v.err = .ok ∧ v.fcMismatch = false) ∧
        (0x80 ≤ fc.toNat → v.err = if d.length = 1 then .exceptionResponse else .lengthError)

/-! ### The length dispatch -/

/-- 41_length_dispatch.md R132: every length dispatch() sets lies in {4, 5, 8} or in 5 to 256, so it fits RXBUF. -/
def Obligations.DispatchedLengthFitsRxbuf : Prop :=
  ∀ (s : State) (n : Nat) (fb : Bool), s.dispatch = .expect n fb →
    (n = 4 ∨ n = 5 ∨ n = 8 ∨ (5 ≤ n ∧ n ≤ 256)) ∧ 4 ≤ n ∧ n ≤ 256 ∧ (s.expectLength n fb).rxexp.toNat = n

/-- R122, R123, R125, R126 (and R127's length): the second byte of a response decides. TXFC | 0x80 is an exception of 5
bytes whatever the class; otherwise the class of TXFC gives 8, 8, 4 with FALLBACK, or waits. -/
def Obligations.SecondByteDecidesLength : Prop :=
  ∀ (s : State) (b : Byte), s.phase = .rx → s.rxlen = 1 → s.rxexp = 0 →
    (b = s.txfc ||| 0x80 →
      handleEvent (.rxByte b) s = .next { s with rxbuf := s.rxbuf.write 1 b, rxlen := 2, rxexp := 5 }) ∧
    (b ≠ s.txfc ||| 0x80 →
      (s.txClass = .read →
        handleEvent (.rxByte b) s = .next { s with rxbuf := s.rxbuf.write 1 b, rxlen := 2 }) ∧
      (s.txClass = .writeSingle ∨ s.txClass = .writeMultiple →
        handleEvent (.rxByte b) s = .next { s with rxbuf := s.rxbuf.write 1 b, rxlen := 2, rxexp := 8 }) ∧
      (s.txClass = .other →
        handleEvent (.rxByte b) s = .next { s with rxbuf := s.rxbuf.write 1 b, rxlen := 2, rxexp := 4, fallback := true }))

/-- R124, R129: the third byte of a READ response is its byte count; up to 251 it gives the length 3 + bc + 2, above that the
exchange completes with LENGTH_ERROR and the link is invalidated. -/
def Obligations.ByteCountDecidesLength : Prop :=
  ∀ (s : State) (bc : Byte), s.phase = .rx → s.rxlen = 2 → s.rxexp = 0 →
    (bc.toNat ≤ 251 →
      handleEvent (.rxByte bc) s = .next { s with
        rxbuf := s.rxbuf.write 2 bc, rxlen := 3, rxexp := BitVec.ofNat 9 (3 + bc.toNat + 2) }) ∧
    (bc.toNat > 251 →
      handleEvent (.rxByte bc) s = .next { s with
        rxbuf := s.rxbuf.write 2 bc, rxlen := 3, err := .lengthError, done := true, link := false,
        outputs := s.outputs ++ [.hangup], phase := .idle, pendingStart := false, deadline := 0 })

/-! ### The engine commands -/

/-- 43_transport.md R172: engine commands are refused while BUSY, and ENCODE, DECODE and START while SLAVE_SET = 0; a refused
command changes nothing but REJECT, and one that is not refused leaves REJECT alone. Host commands are never refused. -/
def Obligations.EngineCommandsRefused : Prop :=
  ∀ (s : State) (i : Instr),
    ((i = .encode ∨ i = .decode ∨ i = .start ∨ i = .connect ∨ i = .close) →
      (s.phase ≠ .idle ∨ ((i = .encode ∨ i = .decode ∨ i = .start) ∧ s.slaveSet = false) →
        exec i s = .next { s with reject := true }) ∧
      (s.phase = .idle → ((i = .encode ∨ i = .decode ∨ i = .start) → s.slaveSet = true) →
        ∃ t, exec i s = .next t ∧ t.reject = s.reject)) ∧
    ((i = .nop ∨ i = .crcInit ∨ (∃ b, i = .crcByte b) ∨ ∃ h, i = .crcVerify h) →
      ∃ t, exec i s = .next t ∧ t.reject = s.reject)

/-- R173: START, in every state. -/
def Obligations.StartCommandResult : Prop :=
  encode .start = 0x00000012 ∧ ∀ s : State,
    (s.phase ≠ .idle ∨ s.slaveSet = false → exec .start s = .next { s with reject := true }) ∧
      (s.phase = .idle → s.slaveSet = true → s.txlen.toNat > 252 →
        exec .start s = .next { s with
          done := true, err := .payloadTooLong, excCode := 0, fcMismatch := false, fallback := false,
          pendingStart := false, deadline := 0 }) ∧
      (s.phase = .idle → s.slaveSet = true → s.txlen.toNat ≤ 252 → s.link = false →
        exec .start s = .next { s with
          done := false, err := .ok, excCode := 0, fcMismatch := false, fallback := false,
          txcrc := crc16 ([s.slave, s.txfc] ++ (List.range s.txlen.toNat).map s.txAt),
          txpos := 0, rxlen := 0, rxexp := 0, deadline := s.timeout,
          phase := .connecting, pendingStart := true, outputs := s.outputs ++ [.dial] }) ∧
      (s.phase = .idle → s.slaveSet = true → s.txlen.toNat ≤ 252 → s.link = true →
        exec .start s = .next { s with
          done := false, err := .ok, excCode := 0, fcMismatch := false, fallback := false,
          txcrc := crc16 ([s.slave, s.txfc] ++ (List.range s.txlen.toNat).map s.txAt),
          txpos := 0, rxlen := 0, rxexp := 0, deadline := s.timeout, phase := .tx })

/-- R174: CONNECT, in every state; it does not need SLAVE_SET. -/
def Obligations.ConnectCommandResult : Prop :=
  encode .connect = 0x00000020 ∧ ∀ s : State,
    (s.phase ≠ .idle → exec .connect s = .next { s with reject := true }) ∧
      (s.phase = .idle → s.link = true →
        exec .connect s = .next { s with
          done := true, err := .ok, excCode := 0, fcMismatch := false, fallback := false,
          pendingStart := false, deadline := 0 }) ∧
      (s.phase = .idle → s.link = false →
        exec .connect s = .next { s with
          done := false, err := .ok, excCode := 0, fcMismatch := false, fallback := false,
          phase := .connecting, pendingStart := false, deadline := s.timeout, outputs := s.outputs ++ [.dial] })

/-- R175: CLOSE, in every state: idempotent, with a Hangup only where a link was. -/
def Obligations.CloseCommandResult : Prop :=
  encode .close = 0x00000021 ∧ ∀ s : State,
    (s.phase ≠ .idle → exec .close s = .next { s with reject := true }) ∧
      (s.phase = .idle →
        exec .close s = .next { s with
          done := true, err := .ok, excCode := 0, fcMismatch := false, fallback := false,
          link := false, outputs := if s.link then s.outputs ++ [.hangup] else s.outputs,
          pendingStart := false, deadline := 0 })

/-- The frame of the nine commands (R104 to R107, R150, R151, R173 to R175): the registers no command writes, every byte of
both buffers, and what each command leaves of the rest. No form of a command stores to a buffer. -/
def Obligations.CommandsFrame : Prop :=
  ∀ (i : Instr) (s t : State), exec i s = .next t →
    t.irqEn = s.irqEn ∧ t.slave = s.slave ∧ t.slaveSet = s.slaveSet ∧ t.timeout = s.timeout ∧ t.txfc = s.txfc ∧
      t.txlen = s.txlen ∧ t.illegal = s.illegal ∧ t.excess = s.excess ∧ t.params = s.params ∧ t.inputs = s.inputs ∧
      (∀ k, t.txAt k = s.txAt k) ∧ (∀ k, t.rxAt k = s.rxAt k) ∧
      ((∀ b, i ≠ .crcByte b) → i ≠ .crcInit → t.crcAcc = s.crcAcc) ∧
      ((∀ h, i ≠ .crcVerify h) → t.crcMatch = s.crcMatch) ∧
      (i ≠ .encode → i ≠ .start → t.txcrc = s.txcrc) ∧
      (i ≠ .decode → t.rxcrc = s.rxcrc) ∧
      (i ≠ .start → t.txpos = s.txpos ∧ t.rxlen = s.rxlen ∧ t.rxexp = s.rxexp) ∧
      (i ≠ .start → i ≠ .connect → t.phase = s.phase) ∧
      (i ≠ .close → t.link = s.link) ∧
      (i ≠ .start → i ≠ .connect → i ≠ .close → t.outputs = s.outputs) ∧
      (i = .nop ∨ i = .crcInit ∨ (∃ b, i = .crcByte b) ∨ (∃ h, i = .crcVerify h) →
        t.pendingStart = s.pendingStart ∧ t.deadline = s.deadline ∧ t.done = s.done ∧ t.reject = s.reject ∧ t.err = s.err ∧
          t.excCode = s.excCode ∧ t.fcMismatch = s.fcMismatch ∧ t.fallback = s.fallback)

/-! ### The streams -/

/-- 43_transport.md R176, R177: TxPull hands over txByte(TXPOS) in PHASE TX and moves on, to RX after the last byte; in any
other phase it does nothing. The handshake view offers exactly that byte. -/
def Obligations.TxPullHandsOverNextByte : Prop :=
  ∀ s : State,
    (s.phase = .tx → s.txlen.toNat ≤ 252 → s.txpos.toNat < s.txlen.toNat + 3 →
      handleEvent .txPull s = .next { s with outputs := s.outputs ++ [.txByte s.txData], txpos := s.txpos + 1 }) ∧
    (s.phase = .tx → s.txlen.toNat ≤ 252 → s.txpos.toNat = s.txlen.toNat + 3 →
      handleEvent .txPull s = .next { s with outputs := s.outputs ++ [.txByte s.txData], phase := .rx }) ∧
    (s.phase ≠ .tx → handleEvent .txPull s = .next s) ∧
    (s.txValid = true ↔ s.phase = .tx) ∧ s.txData = s.txByte s.txpos.toNat

/-- 20_memory.md R71 with R176: n + 4 TxPulls from the start of TX emit exactly the request frame, first byte first, end in
RX, and change nothing else. -/
def Obligations.WholeRequestSentInOrder : Prop :=
  ∀ s : State, s.phase = .tx → s.txpos = 0 → s.txlen.toNat ≤ 252 →
    s.runEvents (List.replicate (s.txlen.toNat + 4) .txPull) = .next { s with
      inputs := []
      outputs := s.outputs ++ s.txFrame.map Output.txByte
      txpos := BitVec.ofNat 8 (s.txlen.toNat + 3)
      phase := .rx }

/-- R178, its frame: under the invariant an RxByte in RX never stops; it stores its byte at RXBUF[RXLEN], leaves every other
byte of both buffers and the request registers alone, and counts one byte. It keeps PHASE RX, LINK, DEADLINE, the outputs and
every result field but FALLBACK, or it completes. -/
def Obligations.RxByteStoresOneByte : Prop :=
  ∀ (s : State) (b : Byte), s.Inv → s.phase = .rx →
    ∃ t, handleEvent (.rxByte b) s = .next t ∧
      (∀ k, t.rxAt k = if k = s.rxlen.toNat then b else s.rxAt k) ∧ (∀ k, t.txAt k = s.txAt k) ∧
      t.rxlen.toNat = s.rxlen.toNat + 1 ∧
      t.irqEn = s.irqEn ∧ t.slave = s.slave ∧ t.slaveSet = s.slaveSet ∧ t.timeout = s.timeout ∧ t.txfc = s.txfc ∧
      t.txlen = s.txlen ∧ t.txcrc = s.txcrc ∧ t.txpos = s.txpos ∧ t.crcAcc = s.crcAcc ∧ t.crcMatch = s.crcMatch ∧
      t.reject = s.reject ∧ t.illegal = s.illegal ∧ t.excess = s.excess ∧ t.inputs = s.inputs ∧ t.params = s.params ∧
      t.pendingStart = s.pendingStart ∧
      ((t.phase = .rx ∧ t.link = s.link ∧ t.deadline = s.deadline ∧ t.outputs = s.outputs ∧ t.done = s.done ∧
          t.err = s.err ∧ t.excCode = s.excCode ∧ t.fcMismatch = s.fcMismatch ∧ t.rxcrc = s.rxcrc) ∨
        (t.phase = .idle ∧ t.done = true ∧ t.deadline = 0))

/-- R178, R180 with 41_length_dispatch.md R124: a whole READ reply, received from the start of RX, ends the exchange exactly
at its last byte, with the frame in RXBUF, and for a frame with its own CRC from the addressed slave with ERR = OK and LINK
kept. The function code may be any but TXFC | 0x80 (42_codec.md R148). -/
def Obligations.ReadReplyReassembled : Prop :=
  ∀ (s : State) (f : Byte) (data : List Byte), s.phase = .rx → s.rxlen = 0 → s.rxexp = 0 → s.txClass = .read →
    f ≠ s.txfc ||| 0x80 → data.length ≤ 251 → s.excCode = 0 →
    ∃ t,
      s.runEvents (([s.slave, f, BitVec.ofNat 8 data.length] ++ data ++
          crcWire (crc16 ([s.slave, f, BitVec.ofNat 8 data.length] ++ data))).map Event.rxByte) = .next t ∧
        t.phase = .idle ∧ t.done = true ∧ t.err = .ok ∧ t.excCode = 0 ∧ t.fcMismatch = decide (f ≠ s.txfc) ∧
        t.link = s.link ∧ t.outputs = s.outputs ∧ t.rxlen.toNat = data.length + 5 ∧ t.rxexp = t.rxlen ∧
        t.rxBytes (data.length + 5) = [s.slave, f, BitVec.ofNat 8 data.length] ++ data ++
          crcWire (crc16 ([s.slave, f, BitVec.ofNat 8 data.length] ++ data)) ∧
        t.rxcrc = crc16 ([s.slave, f, BitVec.ofNat 8 data.length] ++ data)

/-- R180 with 42_codec.md R147: an exception reply, whatever the class of the request, completes at its fifth byte with
EXCEPTION_RESPONSE and its code, and LINK kept. -/
def Obligations.ExceptionReplyReported : Prop :=
  ∀ (s : State) (code : Byte), s.phase = .rx → s.rxlen = 0 → s.rxexp = 0 →
    ∃ t,
      s.runEvents (([s.slave, s.txfc ||| 0x80, code] ++ crcWire (crc16 [s.slave, s.txfc ||| 0x80, code])).map
          Event.rxByte) = .next t ∧
        t.phase = .idle ∧ t.done = true ∧ t.err = .exceptionResponse ∧ t.excCode = code ∧ t.link = s.link ∧
        t.outputs = s.outputs ∧ t.rxlen = 5 ∧ t.rxexp = 5

/-- R179: a byte in any phase other than RX does EXCESS <- 1 and nothing else. -/
def Obligations.StrayByteOnlySetsExcess : Prop :=
  ∀ (s : State) (b : Byte), s.phase ≠ .rx → handleEvent (.rxByte b) s = .next { s with excess := true }

/-- R192: the events with no effect, and the two that change one bit. -/
def Obligations.EventsWithNoEffect : Prop :=
  ∀ s : State,
    (s.phase ≠ .tx → handleEvent .txPull s = .next s) ∧
      (s.phase ≠ .connecting → handleEvent .connectOk s = .next s ∧ handleEvent .connectFail s = .next s) ∧
      (s.phase = .idle ∨ s.deadline = 0 → handleEvent .tick s = .next s) ∧
      (s.phase ≠ .rx → ∀ b, handleEvent (.rxByte b) s = .next { s with excess := true }) ∧
      (s.phase = .idle → handleEvent .linkDown s = .next { s with link := false })

/-- R181 to R183: ConnectOk, ConnectFail and LinkDown in every phase. -/
def Obligations.LinkEventResults : Prop :=
  ∀ s : State,
    (s.phase = .connecting → s.pendingStart = true →
      handleEvent .connectOk s = .next { s with link := true, pendingStart := false, phase := .tx, deadline := s.timeout }) ∧
    (s.phase = .connecting → s.pendingStart = false →
      handleEvent .connectOk s = .next { s with link := true, err := .ok, done := true, phase := .idle, deadline := 0 }) ∧
    (s.phase ≠ .connecting → handleEvent .connectOk s = .next s ∧ handleEvent .connectFail s = .next s) ∧
    (s.phase = .connecting → handleEvent .connectFail s = .next { s with
      err := .connectionError, done := true, link := false, outputs := s.outputs ++ [.hangup], phase := .idle,
      pendingStart := false, deadline := 0 }) ∧
    (s.phase = .idle → handleEvent .linkDown s = .next { s with link := false }) ∧
    (s.phase ≠ .idle → handleEvent .linkDown s = .next { s with
      err := if s.phase = .connecting then .connectionError else if s.phase = .tx then .writeError else .readError,
      done := true, link := false, outputs := s.outputs ++ [.hangup], phase := .idle, pendingStart := false, deadline := 0 })

/-- R184, R185: a deadline of T expires on the T-th Tick and not before, and what expiry does; with no deadline, or while
IDLE, no number of Ticks does anything. -/
def Obligations.DeadlineExpiresOnLastTick : Prop :=
  ∀ s : State,
    (s.phase ≠ .idle → s.deadline ≠ 0 →
      (∀ k < s.deadline.toNat, s.runEvents (List.replicate k .tick) =
        .next { s with inputs := [], deadline := BitVec.ofNat 32 (s.deadline.toNat - k) }) ∧
      s.runEvents (List.replicate s.deadline.toNat .tick) = .next { s with
        inputs := [], deadline := 0,
        err := if s.phase = .connecting then .connectionError else .timeoutError,
        done := true, link := false, outputs := s.outputs ++ [.hangup], phase := .idle, pendingStart := false }) ∧
    (s.phase = .idle ∨ s.deadline = 0 → ∀ k, s.runEvents (List.replicate k .tick) = .next { s with inputs := [] })

/-! ### Completion -/

/-- 60_exceptions.md R221, R222: which completions invalidate the link and emit Hangup, and which leave LINK unchanged. -/
def Obligations.TransportErrorsInvalidateLink : Prop :=
  ∀ (s : State) (e : ErrCode),
    (e = .connectionError ∨ e = .writeError ∨ e = .readError ∨ e = .timeoutError ∨ (e = .lengthError ∧ s.phase = .rx) →
      (s.complete e).link = false ∧ (s.complete e).outputs = s.outputs ++ [.hangup]) ∧
    (e = .frameTooShort ∨ e = .crcMismatch ∨ e = .exceptionResponse ∨ e = .payloadTooLong ∨ e = .addressMismatch ∨
        (e = .lengthError ∧ s.phase ≠ .rx) →
      (s.complete e).link = s.link ∧ (s.complete e).outputs = s.outputs)

/-- R226: in every step, DONE becomes 1, and ERR becomes an error, only by a completion: DONE = 1, PHASE = IDLE, PENDING_START
and DEADLINE clear. -/
def Obligations.ResultsOnlyByCompletion : Prop :=
  ∀ s t : State, step s = .next t →
    (t.done = true → s.done = true ∨ (t.phase = .idle ∧ t.pendingStart = false ∧ t.deadline = 0)) ∧
      (t.err ≠ .ok → t.err = s.err ∨ (t.done = true ∧ t.phase = .idle ∧ t.pendingStart = false ∧ t.deadline = 0))

/-! ### The host bus -/

/-- 20_memory.md R69: while BUSY a write to SLAVE, TXFC, TXLEN, RXLEN or a buffer entry changes nothing except REJECT <- 1;
writes to STATUS, IRQ_EN, TIMEOUT and CRC_ACC are taken, and a write to CMD reaches the decoder. -/
def Obligations.ProtectedWritesRefusedWhileBusy : Prop :=
  ∀ (s : State) (a : HostAddr) (v : Word), s.phase ≠ .idle →
    ((a &&& 0xFFC = 0x00C ∨ a &&& 0xFFC = 0x014 ∨ a &&& 0xFFC = 0x018 ∨ a &&& 0xFFC = 0x020 ∨
        (0x400 ≤ a.toNat ∧ a.toNat < 0xC00)) →
      handleEvent (.hostWrite a v) s = .next { s with reject := true }) ∧
    (a &&& 0xFFC = 0x000 → handleEvent (.hostWrite a v) s = writeCmd v s) ∧
    (a &&& 0xFFC = 0x004 → handleEvent (.hostWrite a v) s = .next (s.acknowledge v)) ∧
    (a &&& 0xFFC = 0x008 → handleEvent (.hostWrite a v) s = .next { s with irqEn := v.extractLsb' 0 2 }) ∧
    (a &&& 0xFFC = 0x010 → handleEvent (.hostWrite a v) s = .next { s with timeout := v }) ∧
    (a &&& 0xFFC = 0x02C → handleEvent (.hostWrite a v) s = .next { s with crcAcc := v.extractLsb' 0 16 })

/-- R62: an access with addr[1:0] != 0 acts exactly as the access to addr & ~3, and no access raises an error: at every address
both the read and the write answer a next state. -/
def Obligations.LowAddressBitsIgnored : Prop :=
  ∀ (s : State) (a : HostAddr) (v : Word),
    handleEvent (.hostRead a) s = handleEvent (.hostRead (a &&& ~~~3)) s ∧
      handleEvent (.hostWrite a v) s = handleEvent (.hostWrite (a &&& ~~~3) v) s ∧
      (∃ t, handleEvent (.hostRead a) s = .next t) ∧ ∃ t, handleEvent (.hostWrite a v) s = .next t

/-- R65: an unmapped word reads as 0x00000000 and ignores writes. -/
def Obligations.UnmappedWordsAreInert : Prop :=
  ∀ (s : State) (a : HostAddr) (v : Word), ((0x038 ≤ a.toNat ∧ a.toNat < 0x400) ∨ 0xC00 ≤ a.toNat) →
    handleEvent (.hostRead a) s = .next { s with outputs := s.outputs ++ [.readData 0x00000000] } ∧
      handleEvent (.hostWrite a v) s = .next s

/-- R67: a host read changes no state but the answer it emits, and every word reads after it as before it. The value is the
register's field, zero-extended (10_state.md R22, R25 to R33, R35, R36); STATUS, ENGINE and the buffers have their own
statements. -/
def Obligations.ReadsChangeNothing : Prop :=
  ∀ (s : State) (a : HostAddr),
    ∃ t, handleEvent (.hostRead a) s = .next t ∧ t = { s with outputs := s.outputs ++ [.readData (s.busRead a)] } ∧
      (∀ b, t.busRead b = s.busRead b) ∧
      s.busRead 0x000 = 0 ∧ s.busRead 0x008 = s.irqEn.zeroExtend 32 ∧ s.busRead 0x00C = s.slave.zeroExtend 32 ∧
      s.busRead 0x010 = s.timeout ∧ s.busRead 0x014 = s.txfc.zeroExtend 32 ∧ s.busRead 0x018 = s.txlen.zeroExtend 32 ∧
      s.busRead 0x01C = s.txcrc.zeroExtend 32 ∧ s.busRead 0x020 = s.rxlen.zeroExtend 32 ∧
      s.busRead 0x024 = s.rxexp.zeroExtend 32 ∧ s.busRead 0x028 = s.rxcrc.zeroExtend 32 ∧
      s.busRead 0x02C = s.crcAcc.zeroExtend 32 ∧ s.busRead 0x034 = s.deadline

/-- 10_state.md R25 to R36, 20_memory.md R66, R68: a write that is not refused stores the register's own bits of `v`, which
then read back with every other bit 0, and no other word reads differently (but ENGINE, whose bit 3 is SLAVE_SET, after a
write to SLAVE). RO registers ignore writes in every phase. -/
def Obligations.RegisterWritesReadBack : Prop :=
  ∀ (s : State) (v : Word),
    (s.phase = .idle → ∀ (r : Reg) (mask : Word),
      (r, mask) ∈ [(Reg.irqEn, (0x3 : Word)), (.slave, 0xFF), (.timeout, 0xFFFFFFFF), (.txfc, 0xFF), (.txlen, 0xFFFF),
        (.rxlen, 0x1FF), (.crcAcc, 0xFFFF)] →
      ∃ t, handleEvent (.hostWrite r.offset v) s = .next t ∧
        t.busRead r.offset = v &&& mask ∧
        (∀ b, busTarget b ≠ .reg r → (r = .slave → busTarget b ≠ .reg .engine) → t.busRead b = s.busRead b) ∧
        (r = .slave → t.slaveSet = true) ∧ t.outputs = s.outputs ∧ t.inputs = s.inputs) ∧
    ∀ r ∈ [Reg.txcrc, .rxexp, .rxcrc, .engine, .deadline], handleEvent (.hostWrite r.offset v) s = .next s

/-- R70: the word at 0x400 + 4*i is TXBUF[i] and the word at 0x800 + 4*i is RXBUF[i], in bits 7:0, in every phase; a write
that is not refused stores v[7:0], and no other word of the host space reads differently. -/
def Obligations.BufferWordFormat : Prop :=
  ∀ (s : State) (i : Nat) (v : Word), i < 256 →
    s.busRead (BitVec.ofNat 12 (0x400 + 4 * i)) = (s.txAt i).zeroExtend 32 ∧
      s.busRead (BitVec.ofNat 12 (0x800 + 4 * i)) = (s.rxAt i).zeroExtend 32 ∧
      (s.phase = .idle →
        ∃ t u,
          handleEvent (.hostWrite (BitVec.ofNat 12 (0x400 + 4 * i)) v) s = .next t ∧
            t.busRead (BitVec.ofNat 12 (0x400 + 4 * i)) = v &&& 0xFF ∧
            (∀ b, b &&& 0xFFC ≠ BitVec.ofNat 12 (0x400 + 4 * i) → t.busRead b = s.busRead b) ∧ t.outputs = s.outputs ∧
            handleEvent (.hostWrite (BitVec.ofNat 12 (0x800 + 4 * i)) v) s = .next u ∧
            u.busRead (BitVec.ofNat 12 (0x800 + 4 * i)) = v &&& 0xFF ∧
            (∀ b, b &&& 0xFFC ≠ BitVec.ofNat 12 (0x800 + 4 * i) → u.busRead b = s.busRead b) ∧ u.outputs = s.outputs)

/-- 10_state.md R24: writing 1 to bits 1, 3, 4 and 6 of STATUS clears DONE, REJECT, ILLEGAL and EXCESS; every other bit is
ignored, and the write is never refused. -/
def Obligations.StatusWriteOneToClear : Prop :=
  ∀ (s : State) (v : Word),
    handleEvent (.hostWrite 0x004 v) s = .next { s with
      done := if v.getLsbD 1 then false else s.done
      reject := if v.getLsbD 3 then false else s.reject
      illegal := if v.getLsbD 4 then false else s.illegal
      excess := if v.getLsbD 6 then false else s.excess }

/-- R23: the fields of a STATUS read, ERR with the eleven codes of 60_exceptions.md R220, and that all are 0 after power-up. -/
def Obligations.StatusWordLayout : Prop :=
  ∀ s : State,
    (s.busRead 0x004).getLsbD 0 = decide (s.phase ≠ .idle) ∧ (s.busRead 0x004).getLsbD 1 = s.done ∧
      (s.busRead 0x004).getLsbD 2 = s.link ∧ (s.busRead 0x004).getLsbD 3 = s.reject ∧
      (s.busRead 0x004).getLsbD 4 = s.illegal ∧ (s.busRead 0x004).getLsbD 5 = s.crcMatch ∧
      (s.busRead 0x004).getLsbD 6 = s.excess ∧ (s.busRead 0x004).getLsbD 7 = s.fcMismatch ∧
      (s.busRead 0x004).getLsbD 8 = s.fallback ∧ (s.busRead 0x004).extractLsb' 9 7 = 0 ∧
      (s.err, (s.busRead 0x004).extractLsb' 16 8) ∈
        [(ErrCode.ok, 0x00#8), (.connectionError, 0x01), (.writeError, 0x02), (.readError, 0x03), (.timeoutError, 0x04),
          (.frameTooShort, 0x05), (.crcMismatch, 0x06), (.exceptionResponse, 0x07), (.payloadTooLong, 0x08),
          (.addressMismatch, 0x09), (.lengthError, 0x0A)] ∧
      (s.busRead 0x004).extractLsb' 24 8 = s.excCode ∧
      State.reset.busRead 0x004 = 0

/-- R34: the fields of an ENGINE read; writes are ignored. -/
def Obligations.EngineWordLayout : Prop :=
  ∀ (s : State) (v : Word),
    (s.busRead 0x030).extractLsb' 0 2 =
        (match s.phase with | .idle => 0 | .connecting => 1 | .tx => 2 | .rx => 3) ∧
      (s.busRead 0x030).getLsbD 2 = s.pendingStart ∧ (s.busRead 0x030).getLsbD 3 = s.slaveSet ∧
      (s.busRead 0x030).extractLsb' 4 4 = 0 ∧ (s.busRead 0x030).extractLsb' 8 8 = s.txpos ∧
      (s.busRead 0x030).extractLsb' 16 16 = 0 ∧ handleEvent (.hostWrite 0x030 v) s = .next s

/-- 60_exceptions.md R231: irq, and that it is 0 after Reset. -/
def Obligations.IrqOutput : Prop :=
  ∀ s : State,
    (s.irq = true ↔ (s.done = true ∧ s.irqEn.getLsbD 0 = true) ∨
      ((s.reject = true ∨ s.illegal = true ∨ s.excess = true) ∧ s.irqEn.getLsbD 1 = true)) ∧
      ∃ t, handleEvent .reset s = .next t ∧ t.irq = false

/-! ### Reset -/

/-- 70_reset_and_hazards.md R250, R253: the Reset event, in every state: every register at its reset value, both buffers as
they were, Hangup emitted once whatever LINK was, irq = 0. -/
def Obligations.ResetEventValues : Prop :=
  ∀ s : State,
    ∃ t, handleEvent .reset s = .next t ∧
      (∀ r : Reg, t.readReg r =
        if r = .timeout then s.params.defaultTimeoutTicks else if r = .crcAcc then 0x0000FFFF else 0x00000000) ∧
      t.irqEn = 0 ∧ t.slaveSet = false ∧ t.phase = .idle ∧ t.link = false ∧ t.txpos = 0 ∧ t.pendingStart = false ∧
      t.deadline = 0 ∧ t.done = false ∧ t.err = .ok ∧ t.irq = false ∧
      (∀ k, t.txAt k = s.txAt k) ∧ (∀ k, t.rxAt k = s.rxAt k) ∧ t.outputs = s.outputs ++ [.hangup]

/-- R250, R251, R254: after power-up every register reads as R21's reset column says (TIMEOUT as the parameter), the block is
IDLE and irq is 0. -/
def Obligations.PowerUpValues : Prop :=
  (∀ r : Reg, State.reset.readReg r =
      if r = .timeout then State.reset.params.defaultTimeoutTicks else if r = .crcAcc then 0x0000FFFF else 0x00000000) ∧
    State.reset.phase = .idle ∧ State.reset.slaveSet = false ∧ State.reset.irq = false

/-- The invariant holds after power-up, and the parameters meet 00_scope.md R8 (log entry 7 for the choice of timing). -/
def Obligations.InvariantHoldsAtReset : Prop :=
  State.reset.Inv ∧ State.reset.params.wellFormed = true

/-! ### The whole machine -/

/-- 10_state.md R45: every step keeps the invariant (R45's six, with what makes them inductive), and from a state that has it
no step stops. -/
def Obligations.StepKeepsInvariant : Prop :=
  ∀ s : State, s.Inv → ∃ t, step s = .next t ∧ t.Inv

/-- 43_transport.md R193: PHASE changes only by a listed move, with the move's condition and completion. -/
def Obligations.PhaseMovesAreListed : Prop :=
  ∀ (s t : State) (e : Event) (rest : List Event), s.inputs = e :: rest → step s = .next t → t.phase ≠ s.phase →
    ListedMove s e t

/-- R188: between the acceptance of a command and its completion no event but Reset changes SLAVE, TXFC, TXLEN, TXCRC or
TXBUF, and only a byte received in RX changes RXLEN or RXBUF, at the entry RXLEN. -/
def Obligations.ExchangeLocksRequest : Prop :=
  ∀ (s t : State) (e : Event) (rest : List Event), s.inputs = e :: rest → e ≠ .reset → s.phase ≠ .idle → step s = .next t →
    t.slave = s.slave ∧ t.slaveSet = s.slaveSet ∧ t.txfc = s.txfc ∧ t.txlen = s.txlen ∧ t.txcrc = s.txcrc ∧
      (∀ k, t.txAt k = s.txAt k) ∧
      (s.phase ≠ .rx ∨ (∀ b, e ≠ .rxByte b) → t.rxlen = s.rxlen ∧ t.rxexp = s.rxexp) ∧
      (∀ k, t.rxAt k ≠ s.rxAt k → s.phase = .rx ∧ k = s.rxlen.toNat ∧ ∃ b, e = .rxByte b)

/-- R188, R189: a step emits at most one output; a TxByte only in TX, and it is txByte(TXPOS); a Dial only from IDLE without a
link, and into CONNECTING; a Hangup only with the link down and the block IDLE after it. -/
def Obligations.OutputsOnlyWhereAllowed : Prop :=
  ∀ (s t : State) (o : List Output), step s = .next t → t.outputs = s.outputs ++ o →
    o.length ≤ 1 ∧
      (∀ b, Output.txByte b ∈ o → s.phase = .tx ∧ b = s.txByte s.txpos.toNat) ∧
      (Output.dial ∈ o → s.phase = .idle ∧ s.link = false ∧ t.phase = .connecting) ∧
      (Output.hangup ∈ o → t.link = false ∧ t.phase = .idle)

/-- 10_state.md R39: ConnectOk in CONNECTING sets LINK, and nothing else does; CLOSE once accepted, LinkDown, a transport-class
completion and Reset clear it, and nothing else does; it is 0 at reset. -/
def Obligations.OnlyListedRulesChangeLink : Prop :=
  State.reset.link = false ∧
    ∀ (s t : State) (e : Event) (rest : List Event), s.inputs = e :: rest → step s = .next t →
      (e = .connectOk → s.phase = .connecting → t.link = true) ∧
      (e.commands .close → s.phase = .idle → t.link = false) ∧
      (e = .linkDown ∨ e = .reset → t.link = false) ∧
      (s.phase ≠ .idle → t.phase = .idle →
        (t.err = .connectionError ∨ t.err = .writeError ∨ t.err = .readError ∨ t.err = .timeoutError ∨
          (t.err = .lengthError ∧ s.phase = .rx)) → t.link = false) ∧
      (s.link = false → t.link = true → e = .connectOk ∧ s.phase = .connecting) ∧
      (s.link = true → t.link = false →
        (e.commands .close ∧ s.phase = .idle) ∨ e = .linkDown ∨ e = .reset ∨
          (t.phase = .idle ∧ t.done = true ∧
            (t.err = .connectionError ∨ t.err = .writeError ∨ t.err = .readError ∨ t.err = .timeoutError ∨
              (t.err = .lengthError ∧ s.phase = .rx))))

/-- 10_state.md R20: the parameters are no state; no step changes them (log entry 5). -/
def Obligations.ParametersAreFixed : Prop :=
  ∀ s t : State, step s = .next t → t.params = s.params

/-- 60_exceptions.md R225: a response's last byte in the same cycle as the deadline's last Tick completes the frame, and the
Tick then finds PHASE = IDLE. -/
def Obligations.LastByteBeatsLastTick : Prop :=
  ∀ (s : State) (b : Byte), s.Inv → s.phase = .rx → s.rxexp ≠ 0 → s.rxlen.toNat + 1 = s.rxexp.toNat → s.deadline = 1 →
    ∃ t,
      s.runEvents (ClockCycle.events ⟨false, false, some b, none, false, true, none⟩) = .next t ∧
        t.phase = .idle ∧ t.done = true ∧ t.err = ((s.storeRx b).verify s.rxexp.toNat).err ∧ t.err ≠ .timeoutError ∧
        t.link = true ∧ t.outputs = s.outputs

/-- 43_transport.md R180 with R178, for a reply of any class: the byte that brings RXLEN to RXEXP completes with the verdict of
RXBUF[0..RXEXP), which is neither FRAME_TOO_SHORT nor LENGTH_ERROR, with LINK = 1 and the frame kept; an earlier byte, sized or
the very first, only is stored and counted. FALLBACK stays as the dispatch left it. -/
def Obligations.SizedReplyCompletesAtItsLength : Prop :=
  ∀ (s : State) (b : Byte), s.Inv → s.phase = .rx →
    (s.rxexp ≠ 0 → s.rxlen.toNat + 1 = s.rxexp.toNat →
      ((s.storeRx b).verify s.rxexp.toNat).err ≠ .frameTooShort ∧ ((s.storeRx b).verify s.rxexp.toNat).err ≠ .lengthError ∧
        s.link = true ∧
        handleEvent (.rxByte b) s = .next { s with
          rxbuf := s.rxbuf.write s.rxlen.toNat b
          rxlen := s.rxexp
          rxcrc := crc16 ((s.storeRx b).rxBytes (s.rxexp.toNat - 2))
          err := ((s.storeRx b).verify s.rxexp.toNat).err
          excCode := ((s.storeRx b).verify s.rxexp.toNat).excCode
          fcMismatch := ((s.storeRx b).verify s.rxexp.toNat).fcMismatch
          done := true
          phase := .idle
          deadline := 0 }) ∧
    (s.rxlen = 0 ∨ (s.rxexp ≠ 0 ∧ s.rxlen.toNat + 1 < s.rxexp.toNat) →
      handleEvent (.rxByte b) s = .next { s with rxbuf := s.rxbuf.write s.rxlen.toNat b, rxlen := s.rxlen + 1 })
end

