-- ==== Sys2Proof/Laws/Crc.lean ====
section
/-! SUPPORT. The laws of the CRC16-Modbus function: a shift step is linear over XOR and loses nothing, so folding a byte is. -/

namespace Sys2Proof.Machine

/-- A shift step without its test: the low bit, spread over the polynomial. -/
theorem crcShift_eq (a : Half) :
    crcShift a = (a >>> 1) ^^^ (if a.getLsbD 0 then 0xA001#16 else 0#16) := by
  unfold crcShift
  split <;> simp

theorem crcShift_zero : crcShift 0 = 0 := by decide

theorem crcShift_xor (a b : Half) : crcShift (a ^^^ b) = crcShift a ^^^ crcShift b := by
  simp only [crcShift_eq, BitVec.getLsbD_xor, BitVec.ushiftRight_xor_distrib]
  have h : (if (a.getLsbD 0 ^^ b.getLsbD 0) then 0xA001#16 else 0#16) =
      (if a.getLsbD 0 then 0xA001#16 else 0#16) ^^^ (if b.getLsbD 0 then 0xA001#16 else 0#16) := by
    cases a.getLsbD 0 <;> cases b.getLsbD 0 <;> rfl
  rw [h]
  ac_rfl

/-- A shift step loses nothing: only 0 goes to 0. -/
theorem crcShift_eq_zero {a : Half} (h : crcShift a = 0) : a = 0 := by
  rw [crcShift_eq] at h
  have h15 : (a >>> 1).getLsbD 15 = false := by simp
  have hx : a >>> 1 = if a.getLsbD 0 then 0xA001#16 else 0#16 := by simpa [BitVec.xor_eq_zero_iff] using h
  cases h0 : a.getLsbD 0
  · rw [h0] at hx
    apply BitVec.eq_of_getLsbD_eq
    intro i hi
    cases i with
    | zero => simpa using h0
    | succ k =>
      have := congrArg (fun v : Half => v.getLsbD k) hx
      simpa [Nat.add_comm] using this
  · rw [h0] at hx
    rw [hx] at h15
    exact absurd h15 (by decide)

theorem crcShifts_zero (n : Nat) : crcShifts n 0 = 0 := by
  induction n with
  | zero => rfl
  | succ k ih => rw [crcShifts, crcShift_zero, ih]

theorem crcShifts_xor (n : Nat) (a b : Half) : crcShifts n (a ^^^ b) = crcShifts n a ^^^ crcShifts n b := by
  induction n generalizing a b with
  | zero => rfl
  | succ k ih => rw [crcShifts, crcShift_xor, ih]; rfl

theorem crcShifts_eq_zero {n : Nat} {a : Half} (h : crcShifts n a = 0) : a = 0 := by
  induction n generalizing a with
  | zero => exact h
  | succ k ih => exact crcShift_eq_zero (ih h)

/-- Folding a byte is linear in the accumulator and the byte together. -/
theorem crcStep_xor (a b : Half) (x y : Byte) : crcStep (a ^^^ b) (x ^^^ y) = crcStep a x ^^^ crcStep b y := by
  have h : (a ^^^ b) ^^^ (x ^^^ y).zeroExtend 16 = (a ^^^ x.zeroExtend 16) ^^^ (b ^^^ y.zeroExtend 16) := by
    simp only [BitVec.zeroExtend, BitVec.setWidth_xor]
    ac_rfl
  simp only [crcStep, h, crcShifts_xor]

@[simp] theorem crcFold_nil (a : Half) : crcFold a [] = a := rfl

@[simp] theorem crcFold_cons (a : Half) (b : Byte) (bs : List Byte) :
    crcFold a (b :: bs) = crcFold (crcStep a b) bs := rfl

theorem crcFold_append (a : Half) (xs ys : List Byte) : crcFold a (xs ++ ys) = crcFold (crcFold a xs) ys := by
  simp [crcFold]

/-- The accumulator after the empty sequence is the start value. -/
theorem crc16_nil : crc16 [] = 0xFFFF#16 := rfl

theorem crc16_append (xs ys : List Byte) : crc16 (xs ++ ys) = crcFold (crc16 xs) ys :=
  crcFold_append 0xFFFF xs ys

end Sys2Proof.Machine
end

