-- ==== Sys2Proof/Laws/HostBus.lean ====
section
/-! SUPPORT. The address map, offset by offset (20_memory.md R64). -/

namespace Sys2Proof.Machine

/-- A register's offset decodes to that register. -/
@[simp] theorem busTarget_offset (r : Reg) : busTarget r.offset = .reg r := by
  cases r <;> decide

/-- TXBUF[i] stands at 0x400 + 4*i. -/
theorem busTarget_txbuf : ∀ i < 256, busTarget (BitVec.ofNat 12 (0x400 + 4 * i)) = .txbuf i := by
  decide +kernel

/-- RXBUF[i] stands at 0x800 + 4*i. -/
theorem busTarget_rxbuf : ∀ i < 256, busTarget (BitVec.ofNat 12 (0x800 + 4 * i)) = .rxbuf i := by
  decide +kernel

/-- Only CMD's word reaches CMD. -/
theorem wordAddr_offset (r : Reg) : wordAddr r.offset = r.offset := by
  cases r <;> decide

end Sys2Proof.Machine
end

