-- ==== Sys2Proof/Laws/State.lean ====
section
/-! SUPPORT. One lemma per field per update of the state, so that no later proof unfolds a record update. -/

namespace Sys2Proof.Machine

/-! ### emit -/

@[simp] theorem State.emit_irqEn (s : State) (o : Output) : (s.emit o).irqEn = s.irqEn := rfl
@[simp] theorem State.emit_slave (s : State) (o : Output) : (s.emit o).slave = s.slave := rfl
@[simp] theorem State.emit_slaveSet (s : State) (o : Output) : (s.emit o).slaveSet = s.slaveSet := rfl
@[simp] theorem State.emit_timeout (s : State) (o : Output) : (s.emit o).timeout = s.timeout := rfl
@[simp] theorem State.emit_txfc (s : State) (o : Output) : (s.emit o).txfc = s.txfc := rfl
@[simp] theorem State.emit_txlen (s : State) (o : Output) : (s.emit o).txlen = s.txlen := rfl
@[simp] theorem State.emit_txcrc (s : State) (o : Output) : (s.emit o).txcrc = s.txcrc := rfl
@[simp] theorem State.emit_rxlen (s : State) (o : Output) : (s.emit o).rxlen = s.rxlen := rfl
@[simp] theorem State.emit_rxexp (s : State) (o : Output) : (s.emit o).rxexp = s.rxexp := rfl
@[simp] theorem State.emit_rxcrc (s : State) (o : Output) : (s.emit o).rxcrc = s.rxcrc := rfl
@[simp] theorem State.emit_crcAcc (s : State) (o : Output) : (s.emit o).crcAcc = s.crcAcc := rfl
@[simp] theorem State.emit_txbuf (s : State) (o : Output) : (s.emit o).txbuf = s.txbuf := rfl
@[simp] theorem State.emit_rxbuf (s : State) (o : Output) : (s.emit o).rxbuf = s.rxbuf := rfl
@[simp] theorem State.emit_link (s : State) (o : Output) : (s.emit o).link = s.link := rfl
@[simp] theorem State.emit_phase (s : State) (o : Output) : (s.emit o).phase = s.phase := rfl
@[simp] theorem State.emit_txpos (s : State) (o : Output) : (s.emit o).txpos = s.txpos := rfl
@[simp] theorem State.emit_pendingStart (s : State) (o : Output) : (s.emit o).pendingStart = s.pendingStart := rfl
@[simp] theorem State.emit_deadline (s : State) (o : Output) : (s.emit o).deadline = s.deadline := rfl
@[simp] theorem State.emit_done (s : State) (o : Output) : (s.emit o).done = s.done := rfl
@[simp] theorem State.emit_reject (s : State) (o : Output) : (s.emit o).reject = s.reject := rfl
@[simp] theorem State.emit_illegal (s : State) (o : Output) : (s.emit o).illegal = s.illegal := rfl
@[simp] theorem State.emit_excess (s : State) (o : Output) : (s.emit o).excess = s.excess := rfl
@[simp] theorem State.emit_crcMatch (s : State) (o : Output) : (s.emit o).crcMatch = s.crcMatch := rfl
@[simp] theorem State.emit_err (s : State) (o : Output) : (s.emit o).err = s.err := rfl
@[simp] theorem State.emit_excCode (s : State) (o : Output) : (s.emit o).excCode = s.excCode := rfl
@[simp] theorem State.emit_fcMismatch (s : State) (o : Output) : (s.emit o).fcMismatch = s.fcMismatch := rfl
@[simp] theorem State.emit_fallback (s : State) (o : Output) : (s.emit o).fallback = s.fallback := rfl
@[simp] theorem State.emit_params (s : State) (o : Output) : (s.emit o).params = s.params := rfl
@[simp] theorem State.emit_inputs (s : State) (o : Output) : (s.emit o).inputs = s.inputs := rfl
@[simp] theorem State.emit_outputs (s : State) (o : Output) : (s.emit o).outputs = s.outputs ++ [o] := rfl

/-! ### markReject -/

@[simp] theorem State.markReject_irqEn (s : State) : (s.markReject).irqEn = s.irqEn := rfl
@[simp] theorem State.markReject_slave (s : State) : (s.markReject).slave = s.slave := rfl
@[simp] theorem State.markReject_slaveSet (s : State) : (s.markReject).slaveSet = s.slaveSet := rfl
@[simp] theorem State.markReject_timeout (s : State) : (s.markReject).timeout = s.timeout := rfl
@[simp] theorem State.markReject_txfc (s : State) : (s.markReject).txfc = s.txfc := rfl
@[simp] theorem State.markReject_txlen (s : State) : (s.markReject).txlen = s.txlen := rfl
@[simp] theorem State.markReject_txcrc (s : State) : (s.markReject).txcrc = s.txcrc := rfl
@[simp] theorem State.markReject_rxlen (s : State) : (s.markReject).rxlen = s.rxlen := rfl
@[simp] theorem State.markReject_rxexp (s : State) : (s.markReject).rxexp = s.rxexp := rfl
@[simp] theorem State.markReject_rxcrc (s : State) : (s.markReject).rxcrc = s.rxcrc := rfl
@[simp] theorem State.markReject_crcAcc (s : State) : (s.markReject).crcAcc = s.crcAcc := rfl
@[simp] theorem State.markReject_txbuf (s : State) : (s.markReject).txbuf = s.txbuf := rfl
@[simp] theorem State.markReject_rxbuf (s : State) : (s.markReject).rxbuf = s.rxbuf := rfl
@[simp] theorem State.markReject_link (s : State) : (s.markReject).link = s.link := rfl
@[simp] theorem State.markReject_phase (s : State) : (s.markReject).phase = s.phase := rfl
@[simp] theorem State.markReject_txpos (s : State) : (s.markReject).txpos = s.txpos := rfl
@[simp] theorem State.markReject_pendingStart (s : State) : (s.markReject).pendingStart = s.pendingStart := rfl
@[simp] theorem State.markReject_deadline (s : State) : (s.markReject).deadline = s.deadline := rfl
@[simp] theorem State.markReject_done (s : State) : (s.markReject).done = s.done := rfl
@[simp] theorem State.markReject_reject (s : State) : (s.markReject).reject = true := rfl
@[simp] theorem State.markReject_illegal (s : State) : (s.markReject).illegal = s.illegal := rfl
@[simp] theorem State.markReject_excess (s : State) : (s.markReject).excess = s.excess := rfl
@[simp] theorem State.markReject_crcMatch (s : State) : (s.markReject).crcMatch = s.crcMatch := rfl
@[simp] theorem State.markReject_err (s : State) : (s.markReject).err = s.err := rfl
@[simp] theorem State.markReject_excCode (s : State) : (s.markReject).excCode = s.excCode := rfl
@[simp] theorem State.markReject_fcMismatch (s : State) : (s.markReject).fcMismatch = s.fcMismatch := rfl
@[simp] theorem State.markReject_fallback (s : State) : (s.markReject).fallback = s.fallback := rfl
@[simp] theorem State.markReject_params (s : State) : (s.markReject).params = s.params := rfl
@[simp] theorem State.markReject_inputs (s : State) : (s.markReject).inputs = s.inputs := rfl
@[simp] theorem State.markReject_outputs (s : State) : (s.markReject).outputs = s.outputs := rfl

/-! ### markIllegal -/

@[simp] theorem State.markIllegal_irqEn (s : State) : (s.markIllegal).irqEn = s.irqEn := rfl
@[simp] theorem State.markIllegal_slave (s : State) : (s.markIllegal).slave = s.slave := rfl
@[simp] theorem State.markIllegal_slaveSet (s : State) : (s.markIllegal).slaveSet = s.slaveSet := rfl
@[simp] theorem State.markIllegal_timeout (s : State) : (s.markIllegal).timeout = s.timeout := rfl
@[simp] theorem State.markIllegal_txfc (s : State) : (s.markIllegal).txfc = s.txfc := rfl
@[simp] theorem State.markIllegal_txlen (s : State) : (s.markIllegal).txlen = s.txlen := rfl
@[simp] theorem State.markIllegal_txcrc (s : State) : (s.markIllegal).txcrc = s.txcrc := rfl
@[simp] theorem State.markIllegal_rxlen (s : State) : (s.markIllegal).rxlen = s.rxlen := rfl
@[simp] theorem State.markIllegal_rxexp (s : State) : (s.markIllegal).rxexp = s.rxexp := rfl
@[simp] theorem State.markIllegal_rxcrc (s : State) : (s.markIllegal).rxcrc = s.rxcrc := rfl
@[simp] theorem State.markIllegal_crcAcc (s : State) : (s.markIllegal).crcAcc = s.crcAcc := rfl
@[simp] theorem State.markIllegal_txbuf (s : State) : (s.markIllegal).txbuf = s.txbuf := rfl
@[simp] theorem State.markIllegal_rxbuf (s : State) : (s.markIllegal).rxbuf = s.rxbuf := rfl
@[simp] theorem State.markIllegal_link (s : State) : (s.markIllegal).link = s.link := rfl
@[simp] theorem State.markIllegal_phase (s : State) : (s.markIllegal).phase = s.phase := rfl
@[simp] theorem State.markIllegal_txpos (s : State) : (s.markIllegal).txpos = s.txpos := rfl
@[simp] theorem State.markIllegal_pendingStart (s : State) : (s.markIllegal).pendingStart = s.pendingStart := rfl
@[simp] theorem State.markIllegal_deadline (s : State) : (s.markIllegal).deadline = s.deadline := rfl
@[simp] theorem State.markIllegal_done (s : State) : (s.markIllegal).done = s.done := rfl
@[simp] theorem State.markIllegal_reject (s : State) : (s.markIllegal).reject = s.reject := rfl
@[simp] theorem State.markIllegal_illegal (s : State) : (s.markIllegal).illegal = true := rfl
@[simp] theorem State.markIllegal_excess (s : State) : (s.markIllegal).excess = s.excess := rfl
@[simp] theorem State.markIllegal_crcMatch (s : State) : (s.markIllegal).crcMatch = s.crcMatch := rfl
@[simp] theorem State.markIllegal_err (s : State) : (s.markIllegal).err = s.err := rfl
@[simp] theorem State.markIllegal_excCode (s : State) : (s.markIllegal).excCode = s.excCode := rfl
@[simp] theorem State.markIllegal_fcMismatch (s : State) : (s.markIllegal).fcMismatch = s.fcMismatch := rfl
@[simp] theorem State.markIllegal_fallback (s : State) : (s.markIllegal).fallback = s.fallback := rfl
@[simp] theorem State.markIllegal_params (s : State) : (s.markIllegal).params = s.params := rfl
@[simp] theorem State.markIllegal_inputs (s : State) : (s.markIllegal).inputs = s.inputs := rfl
@[simp] theorem State.markIllegal_outputs (s : State) : (s.markIllegal).outputs = s.outputs := rfl

/-! ### markExcess -/

@[simp] theorem State.markExcess_irqEn (s : State) : (s.markExcess).irqEn = s.irqEn := rfl
@[simp] theorem State.markExcess_slave (s : State) : (s.markExcess).slave = s.slave := rfl
@[simp] theorem State.markExcess_slaveSet (s : State) : (s.markExcess).slaveSet = s.slaveSet := rfl
@[simp] theorem State.markExcess_timeout (s : State) : (s.markExcess).timeout = s.timeout := rfl
@[simp] theorem State.markExcess_txfc (s : State) : (s.markExcess).txfc = s.txfc := rfl
@[simp] theorem State.markExcess_txlen (s : State) : (s.markExcess).txlen = s.txlen := rfl
@[simp] theorem State.markExcess_txcrc (s : State) : (s.markExcess).txcrc = s.txcrc := rfl
@[simp] theorem State.markExcess_rxlen (s : State) : (s.markExcess).rxlen = s.rxlen := rfl
@[simp] theorem State.markExcess_rxexp (s : State) : (s.markExcess).rxexp = s.rxexp := rfl
@[simp] theorem State.markExcess_rxcrc (s : State) : (s.markExcess).rxcrc = s.rxcrc := rfl
@[simp] theorem State.markExcess_crcAcc (s : State) : (s.markExcess).crcAcc = s.crcAcc := rfl
@[simp] theorem State.markExcess_txbuf (s : State) : (s.markExcess).txbuf = s.txbuf := rfl
@[simp] theorem State.markExcess_rxbuf (s : State) : (s.markExcess).rxbuf = s.rxbuf := rfl
@[simp] theorem State.markExcess_link (s : State) : (s.markExcess).link = s.link := rfl
@[simp] theorem State.markExcess_phase (s : State) : (s.markExcess).phase = s.phase := rfl
@[simp] theorem State.markExcess_txpos (s : State) : (s.markExcess).txpos = s.txpos := rfl
@[simp] theorem State.markExcess_pendingStart (s : State) : (s.markExcess).pendingStart = s.pendingStart := rfl
@[simp] theorem State.markExcess_deadline (s : State) : (s.markExcess).deadline = s.deadline := rfl
@[simp] theorem State.markExcess_done (s : State) : (s.markExcess).done = s.done := rfl
@[simp] theorem State.markExcess_reject (s : State) : (s.markExcess).reject = s.reject := rfl
@[simp] theorem State.markExcess_illegal (s : State) : (s.markExcess).illegal = s.illegal := rfl
@[simp] theorem State.markExcess_excess (s : State) : (s.markExcess).excess = true := rfl
@[simp] theorem State.markExcess_crcMatch (s : State) : (s.markExcess).crcMatch = s.crcMatch := rfl
@[simp] theorem State.markExcess_err (s : State) : (s.markExcess).err = s.err := rfl
@[simp] theorem State.markExcess_excCode (s : State) : (s.markExcess).excCode = s.excCode := rfl
@[simp] theorem State.markExcess_fcMismatch (s : State) : (s.markExcess).fcMismatch = s.fcMismatch := rfl
@[simp] theorem State.markExcess_fallback (s : State) : (s.markExcess).fallback = s.fallback := rfl
@[simp] theorem State.markExcess_params (s : State) : (s.markExcess).params = s.params := rfl
@[simp] theorem State.markExcess_inputs (s : State) : (s.markExcess).inputs = s.inputs := rfl
@[simp] theorem State.markExcess_outputs (s : State) : (s.markExcess).outputs = s.outputs := rfl

/-! ### accept -/

@[simp] theorem State.accept_irqEn (s : State) : (s.accept).irqEn = s.irqEn := rfl
@[simp] theorem State.accept_slave (s : State) : (s.accept).slave = s.slave := rfl
@[simp] theorem State.accept_slaveSet (s : State) : (s.accept).slaveSet = s.slaveSet := rfl
@[simp] theorem State.accept_timeout (s : State) : (s.accept).timeout = s.timeout := rfl
@[simp] theorem State.accept_txfc (s : State) : (s.accept).txfc = s.txfc := rfl
@[simp] theorem State.accept_txlen (s : State) : (s.accept).txlen = s.txlen := rfl
@[simp] theorem State.accept_txcrc (s : State) : (s.accept).txcrc = s.txcrc := rfl
@[simp] theorem State.accept_rxlen (s : State) : (s.accept).rxlen = s.rxlen := rfl
@[simp] theorem State.accept_rxexp (s : State) : (s.accept).rxexp = s.rxexp := rfl
@[simp] theorem State.accept_rxcrc (s : State) : (s.accept).rxcrc = s.rxcrc := rfl
@[simp] theorem State.accept_crcAcc (s : State) : (s.accept).crcAcc = s.crcAcc := rfl
@[simp] theorem State.accept_txbuf (s : State) : (s.accept).txbuf = s.txbuf := rfl
@[simp] theorem State.accept_rxbuf (s : State) : (s.accept).rxbuf = s.rxbuf := rfl
@[simp] theorem State.accept_link (s : State) : (s.accept).link = s.link := rfl
@[simp] theorem State.accept_phase (s : State) : (s.accept).phase = s.phase := rfl
@[simp] theorem State.accept_txpos (s : State) : (s.accept).txpos = s.txpos := rfl
@[simp] theorem State.accept_pendingStart (s : State) : (s.accept).pendingStart = s.pendingStart := rfl
@[simp] theorem State.accept_deadline (s : State) : (s.accept).deadline = s.deadline := rfl
@[simp] theorem State.accept_done (s : State) : (s.accept).done = false := rfl
@[simp] theorem State.accept_reject (s : State) : (s.accept).reject = s.reject := rfl
@[simp] theorem State.accept_illegal (s : State) : (s.accept).illegal = s.illegal := rfl
@[simp] theorem State.accept_excess (s : State) : (s.accept).excess = s.excess := rfl
@[simp] theorem State.accept_crcMatch (s : State) : (s.accept).crcMatch = s.crcMatch := rfl
@[simp] theorem State.accept_err (s : State) : (s.accept).err = .ok := rfl
@[simp] theorem State.accept_excCode (s : State) : (s.accept).excCode = 0 := rfl
@[simp] theorem State.accept_fcMismatch (s : State) : (s.accept).fcMismatch = false := rfl
@[simp] theorem State.accept_fallback (s : State) : (s.accept).fallback = false := rfl
@[simp] theorem State.accept_params (s : State) : (s.accept).params = s.params := rfl
@[simp] theorem State.accept_inputs (s : State) : (s.accept).inputs = s.inputs := rfl
@[simp] theorem State.accept_outputs (s : State) : (s.accept).outputs = s.outputs := rfl

/-! ### armDeadline -/

@[simp] theorem State.armDeadline_irqEn (s : State) : (s.armDeadline).irqEn = s.irqEn := rfl
@[simp] theorem State.armDeadline_slave (s : State) : (s.armDeadline).slave = s.slave := rfl
@[simp] theorem State.armDeadline_slaveSet (s : State) : (s.armDeadline).slaveSet = s.slaveSet := rfl
@[simp] theorem State.armDeadline_timeout (s : State) : (s.armDeadline).timeout = s.timeout := rfl
@[simp] theorem State.armDeadline_txfc (s : State) : (s.armDeadline).txfc = s.txfc := rfl
@[simp] theorem State.armDeadline_txlen (s : State) : (s.armDeadline).txlen = s.txlen := rfl
@[simp] theorem State.armDeadline_txcrc (s : State) : (s.armDeadline).txcrc = s.txcrc := rfl
@[simp] theorem State.armDeadline_rxlen (s : State) : (s.armDeadline).rxlen = s.rxlen := rfl
@[simp] theorem State.armDeadline_rxexp (s : State) : (s.armDeadline).rxexp = s.rxexp := rfl
@[simp] theorem State.armDeadline_rxcrc (s : State) : (s.armDeadline).rxcrc = s.rxcrc := rfl
@[simp] theorem State.armDeadline_crcAcc (s : State) : (s.armDeadline).crcAcc = s.crcAcc := rfl
@[simp] theorem State.armDeadline_txbuf (s : State) : (s.armDeadline).txbuf = s.txbuf := rfl
@[simp] theorem State.armDeadline_rxbuf (s : State) : (s.armDeadline).rxbuf = s.rxbuf := rfl
@[simp] theorem State.armDeadline_link (s : State) : (s.armDeadline).link = s.link := rfl
@[simp] theorem State.armDeadline_phase (s : State) : (s.armDeadline).phase = s.phase := rfl
@[simp] theorem State.armDeadline_txpos (s : State) : (s.armDeadline).txpos = s.txpos := rfl
@[simp] theorem State.armDeadline_pendingStart (s : State) : (s.armDeadline).pendingStart = s.pendingStart := rfl
@[simp] theorem State.armDeadline_deadline (s : State) : (s.armDeadline).deadline = s.timeout := rfl
@[simp] theorem State.armDeadline_done (s : State) : (s.armDeadline).done = s.done := rfl
@[simp] theorem State.armDeadline_reject (s : State) : (s.armDeadline).reject = s.reject := rfl
@[simp] theorem State.armDeadline_illegal (s : State) : (s.armDeadline).illegal = s.illegal := rfl
@[simp] theorem State.armDeadline_excess (s : State) : (s.armDeadline).excess = s.excess := rfl
@[simp] theorem State.armDeadline_crcMatch (s : State) : (s.armDeadline).crcMatch = s.crcMatch := rfl
@[simp] theorem State.armDeadline_err (s : State) : (s.armDeadline).err = s.err := rfl
@[simp] theorem State.armDeadline_excCode (s : State) : (s.armDeadline).excCode = s.excCode := rfl
@[simp] theorem State.armDeadline_fcMismatch (s : State) : (s.armDeadline).fcMismatch = s.fcMismatch := rfl
@[simp] theorem State.armDeadline_fallback (s : State) : (s.armDeadline).fallback = s.fallback := rfl
@[simp] theorem State.armDeadline_params (s : State) : (s.armDeadline).params = s.params := rfl
@[simp] theorem State.armDeadline_inputs (s : State) : (s.armDeadline).inputs = s.inputs := rfl
@[simp] theorem State.armDeadline_outputs (s : State) : (s.armDeadline).outputs = s.outputs := rfl

/-! ### complete -/

@[simp] theorem State.complete_irqEn (s : State) (e : ErrCode) : (s.complete e).irqEn = s.irqEn := rfl
@[simp] theorem State.complete_slave (s : State) (e : ErrCode) : (s.complete e).slave = s.slave := rfl
@[simp] theorem State.complete_slaveSet (s : State) (e : ErrCode) : (s.complete e).slaveSet = s.slaveSet := rfl
@[simp] theorem State.complete_timeout (s : State) (e : ErrCode) : (s.complete e).timeout = s.timeout := rfl
@[simp] theorem State.complete_txfc (s : State) (e : ErrCode) : (s.complete e).txfc = s.txfc := rfl
@[simp] theorem State.complete_txlen (s : State) (e : ErrCode) : (s.complete e).txlen = s.txlen := rfl
@[simp] theorem State.complete_txcrc (s : State) (e : ErrCode) : (s.complete e).txcrc = s.txcrc := rfl
@[simp] theorem State.complete_rxlen (s : State) (e : ErrCode) : (s.complete e).rxlen = s.rxlen := rfl
@[simp] theorem State.complete_rxexp (s : State) (e : ErrCode) : (s.complete e).rxexp = s.rxexp := rfl
@[simp] theorem State.complete_rxcrc (s : State) (e : ErrCode) : (s.complete e).rxcrc = s.rxcrc := rfl
@[simp] theorem State.complete_crcAcc (s : State) (e : ErrCode) : (s.complete e).crcAcc = s.crcAcc := rfl
@[simp] theorem State.complete_txbuf (s : State) (e : ErrCode) : (s.complete e).txbuf = s.txbuf := rfl
@[simp] theorem State.complete_rxbuf (s : State) (e : ErrCode) : (s.complete e).rxbuf = s.rxbuf := rfl
@[simp] theorem State.complete_link (s : State) (e : ErrCode) : (s.complete e).link = (s.link && !e.invalidates s.phase) := rfl
@[simp] theorem State.complete_phase (s : State) (e : ErrCode) : (s.complete e).phase = .idle := rfl
@[simp] theorem State.complete_txpos (s : State) (e : ErrCode) : (s.complete e).txpos = s.txpos := rfl
@[simp] theorem State.complete_pendingStart (s : State) (e : ErrCode) : (s.complete e).pendingStart = false := rfl
@[simp] theorem State.complete_deadline (s : State) (e : ErrCode) : (s.complete e).deadline = 0 := rfl
@[simp] theorem State.complete_done (s : State) (e : ErrCode) : (s.complete e).done = true := rfl
@[simp] theorem State.complete_reject (s : State) (e : ErrCode) : (s.complete e).reject = s.reject := rfl
@[simp] theorem State.complete_illegal (s : State) (e : ErrCode) : (s.complete e).illegal = s.illegal := rfl
@[simp] theorem State.complete_excess (s : State) (e : ErrCode) : (s.complete e).excess = s.excess := rfl
@[simp] theorem State.complete_crcMatch (s : State) (e : ErrCode) : (s.complete e).crcMatch = s.crcMatch := rfl
@[simp] theorem State.complete_err (s : State) (e : ErrCode) : (s.complete e).err = e := rfl
@[simp] theorem State.complete_excCode (s : State) (e : ErrCode) : (s.complete e).excCode = s.excCode := rfl
@[simp] theorem State.complete_fcMismatch (s : State) (e : ErrCode) : (s.complete e).fcMismatch = s.fcMismatch := rfl
@[simp] theorem State.complete_fallback (s : State) (e : ErrCode) : (s.complete e).fallback = s.fallback := rfl
@[simp] theorem State.complete_params (s : State) (e : ErrCode) : (s.complete e).params = s.params := rfl
@[simp] theorem State.complete_inputs (s : State) (e : ErrCode) : (s.complete e).inputs = s.inputs := rfl
@[simp] theorem State.complete_outputs (s : State) (e : ErrCode) : (s.complete e).outputs = (if e.invalidates s.phase then s.outputs ++ [.hangup] else s.outputs) := rfl

/-! ### encodeCrc -/

@[simp] theorem State.encodeCrc_irqEn (s : State) : (s.encodeCrc).irqEn = s.irqEn := rfl
@[simp] theorem State.encodeCrc_slave (s : State) : (s.encodeCrc).slave = s.slave := rfl
@[simp] theorem State.encodeCrc_slaveSet (s : State) : (s.encodeCrc).slaveSet = s.slaveSet := rfl
@[simp] theorem State.encodeCrc_timeout (s : State) : (s.encodeCrc).timeout = s.timeout := rfl
@[simp] theorem State.encodeCrc_txfc (s : State) : (s.encodeCrc).txfc = s.txfc := rfl
@[simp] theorem State.encodeCrc_txlen (s : State) : (s.encodeCrc).txlen = s.txlen := rfl
@[simp] theorem State.encodeCrc_txcrc (s : State) : (s.encodeCrc).txcrc = crc16 s.txBody := rfl
@[simp] theorem State.encodeCrc_rxlen (s : State) : (s.encodeCrc).rxlen = s.rxlen := rfl
@[simp] theorem State.encodeCrc_rxexp (s : State) : (s.encodeCrc).rxexp = s.rxexp := rfl
@[simp] theorem State.encodeCrc_rxcrc (s : State) : (s.encodeCrc).rxcrc = s.rxcrc := rfl
@[simp] theorem State.encodeCrc_crcAcc (s : State) : (s.encodeCrc).crcAcc = s.crcAcc := rfl
@[simp] theorem State.encodeCrc_txbuf (s : State) : (s.encodeCrc).txbuf = s.txbuf := rfl
@[simp] theorem State.encodeCrc_rxbuf (s : State) : (s.encodeCrc).rxbuf = s.rxbuf := rfl
@[simp] theorem State.encodeCrc_link (s : State) : (s.encodeCrc).link = s.link := rfl
@[simp] theorem State.encodeCrc_phase (s : State) : (s.encodeCrc).phase = s.phase := rfl
@[simp] theorem State.encodeCrc_txpos (s : State) : (s.encodeCrc).txpos = s.txpos := rfl
@[simp] theorem State.encodeCrc_pendingStart (s : State) : (s.encodeCrc).pendingStart = s.pendingStart := rfl
@[simp] theorem State.encodeCrc_deadline (s : State) : (s.encodeCrc).deadline = s.deadline := rfl
@[simp] theorem State.encodeCrc_done (s : State) : (s.encodeCrc).done = s.done := rfl
@[simp] theorem State.encodeCrc_reject (s : State) : (s.encodeCrc).reject = s.reject := rfl
@[simp] theorem State.encodeCrc_illegal (s : State) : (s.encodeCrc).illegal = s.illegal := rfl
@[simp] theorem State.encodeCrc_excess (s : State) : (s.encodeCrc).excess = s.excess := rfl
@[simp] theorem State.encodeCrc_crcMatch (s : State) : (s.encodeCrc).crcMatch = s.crcMatch := rfl
@[simp] theorem State.encodeCrc_err (s : State) : (s.encodeCrc).err = s.err := rfl
@[simp] theorem State.encodeCrc_excCode (s : State) : (s.encodeCrc).excCode = s.excCode := rfl
@[simp] theorem State.encodeCrc_fcMismatch (s : State) : (s.encodeCrc).fcMismatch = s.fcMismatch := rfl
@[simp] theorem State.encodeCrc_fallback (s : State) : (s.encodeCrc).fallback = s.fallback := rfl
@[simp] theorem State.encodeCrc_params (s : State) : (s.encodeCrc).params = s.params := rfl
@[simp] theorem State.encodeCrc_inputs (s : State) : (s.encodeCrc).inputs = s.inputs := rfl
@[simp] theorem State.encodeCrc_outputs (s : State) : (s.encodeCrc).outputs = s.outputs := rfl

/-! ### applyVerdict -/

@[simp] theorem State.applyVerdict_irqEn (s : State) (v : Verdict) : (s.applyVerdict v).irqEn = s.irqEn := rfl
@[simp] theorem State.applyVerdict_slave (s : State) (v : Verdict) : (s.applyVerdict v).slave = s.slave := rfl
@[simp] theorem State.applyVerdict_slaveSet (s : State) (v : Verdict) : (s.applyVerdict v).slaveSet = s.slaveSet := rfl
@[simp] theorem State.applyVerdict_timeout (s : State) (v : Verdict) : (s.applyVerdict v).timeout = s.timeout := rfl
@[simp] theorem State.applyVerdict_txfc (s : State) (v : Verdict) : (s.applyVerdict v).txfc = s.txfc := rfl
@[simp] theorem State.applyVerdict_txlen (s : State) (v : Verdict) : (s.applyVerdict v).txlen = s.txlen := rfl
@[simp] theorem State.applyVerdict_txcrc (s : State) (v : Verdict) : (s.applyVerdict v).txcrc = s.txcrc := rfl
@[simp] theorem State.applyVerdict_rxlen (s : State) (v : Verdict) : (s.applyVerdict v).rxlen = s.rxlen := rfl
@[simp] theorem State.applyVerdict_rxexp (s : State) (v : Verdict) : (s.applyVerdict v).rxexp = s.rxexp := rfl
@[simp] theorem State.applyVerdict_rxcrc (s : State) (v : Verdict) : (s.applyVerdict v).rxcrc = v.rxcrc := rfl
@[simp] theorem State.applyVerdict_crcAcc (s : State) (v : Verdict) : (s.applyVerdict v).crcAcc = s.crcAcc := rfl
@[simp] theorem State.applyVerdict_txbuf (s : State) (v : Verdict) : (s.applyVerdict v).txbuf = s.txbuf := rfl
@[simp] theorem State.applyVerdict_rxbuf (s : State) (v : Verdict) : (s.applyVerdict v).rxbuf = s.rxbuf := rfl
@[simp] theorem State.applyVerdict_link (s : State) (v : Verdict) : (s.applyVerdict v).link = s.link := rfl
@[simp] theorem State.applyVerdict_phase (s : State) (v : Verdict) : (s.applyVerdict v).phase = s.phase := rfl
@[simp] theorem State.applyVerdict_txpos (s : State) (v : Verdict) : (s.applyVerdict v).txpos = s.txpos := rfl
@[simp] theorem State.applyVerdict_pendingStart (s : State) (v : Verdict) : (s.applyVerdict v).pendingStart = s.pendingStart := rfl
@[simp] theorem State.applyVerdict_deadline (s : State) (v : Verdict) : (s.applyVerdict v).deadline = s.deadline := rfl
@[simp] theorem State.applyVerdict_done (s : State) (v : Verdict) : (s.applyVerdict v).done = s.done := rfl
@[simp] theorem State.applyVerdict_reject (s : State) (v : Verdict) : (s.applyVerdict v).reject = s.reject := rfl
@[simp] theorem State.applyVerdict_illegal (s : State) (v : Verdict) : (s.applyVerdict v).illegal = s.illegal := rfl
@[simp] theorem State.applyVerdict_excess (s : State) (v : Verdict) : (s.applyVerdict v).excess = s.excess := rfl
@[simp] theorem State.applyVerdict_crcMatch (s : State) (v : Verdict) : (s.applyVerdict v).crcMatch = s.crcMatch := rfl
@[simp] theorem State.applyVerdict_err (s : State) (v : Verdict) : (s.applyVerdict v).err = s.err := rfl
@[simp] theorem State.applyVerdict_excCode (s : State) (v : Verdict) : (s.applyVerdict v).excCode = v.excCode := rfl
@[simp] theorem State.applyVerdict_fcMismatch (s : State) (v : Verdict) : (s.applyVerdict v).fcMismatch = v.fcMismatch := rfl
@[simp] theorem State.applyVerdict_fallback (s : State) (v : Verdict) : (s.applyVerdict v).fallback = s.fallback := rfl
@[simp] theorem State.applyVerdict_params (s : State) (v : Verdict) : (s.applyVerdict v).params = s.params := rfl
@[simp] theorem State.applyVerdict_inputs (s : State) (v : Verdict) : (s.applyVerdict v).inputs = s.inputs := rfl
@[simp] theorem State.applyVerdict_outputs (s : State) (v : Verdict) : (s.applyVerdict v).outputs = s.outputs := rfl

/-! ### rewind -/

@[simp] theorem State.rewind_irqEn (s : State) : (s.rewind).irqEn = s.irqEn := rfl
@[simp] theorem State.rewind_slave (s : State) : (s.rewind).slave = s.slave := rfl
@[simp] theorem State.rewind_slaveSet (s : State) : (s.rewind).slaveSet = s.slaveSet := rfl
@[simp] theorem State.rewind_timeout (s : State) : (s.rewind).timeout = s.timeout := rfl
@[simp] theorem State.rewind_txfc (s : State) : (s.rewind).txfc = s.txfc := rfl
@[simp] theorem State.rewind_txlen (s : State) : (s.rewind).txlen = s.txlen := rfl
@[simp] theorem State.rewind_txcrc (s : State) : (s.rewind).txcrc = s.txcrc := rfl
@[simp] theorem State.rewind_rxlen (s : State) : (s.rewind).rxlen = 0 := rfl
@[simp] theorem State.rewind_rxexp (s : State) : (s.rewind).rxexp = 0 := rfl
@[simp] theorem State.rewind_rxcrc (s : State) : (s.rewind).rxcrc = s.rxcrc := rfl
@[simp] theorem State.rewind_crcAcc (s : State) : (s.rewind).crcAcc = s.crcAcc := rfl
@[simp] theorem State.rewind_txbuf (s : State) : (s.rewind).txbuf = s.txbuf := rfl
@[simp] theorem State.rewind_rxbuf (s : State) : (s.rewind).rxbuf = s.rxbuf := rfl
@[simp] theorem State.rewind_link (s : State) : (s.rewind).link = s.link := rfl
@[simp] theorem State.rewind_phase (s : State) : (s.rewind).phase = s.phase := rfl
@[simp] theorem State.rewind_txpos (s : State) : (s.rewind).txpos = 0 := rfl
@[simp] theorem State.rewind_pendingStart (s : State) : (s.rewind).pendingStart = s.pendingStart := rfl
@[simp] theorem State.rewind_deadline (s : State) : (s.rewind).deadline = s.deadline := rfl
@[simp] theorem State.rewind_done (s : State) : (s.rewind).done = s.done := rfl
@[simp] theorem State.rewind_reject (s : State) : (s.rewind).reject = s.reject := rfl
@[simp] theorem State.rewind_illegal (s : State) : (s.rewind).illegal = s.illegal := rfl
@[simp] theorem State.rewind_excess (s : State) : (s.rewind).excess = s.excess := rfl
@[simp] theorem State.rewind_crcMatch (s : State) : (s.rewind).crcMatch = s.crcMatch := rfl
@[simp] theorem State.rewind_err (s : State) : (s.rewind).err = s.err := rfl
@[simp] theorem State.rewind_excCode (s : State) : (s.rewind).excCode = s.excCode := rfl
@[simp] theorem State.rewind_fcMismatch (s : State) : (s.rewind).fcMismatch = s.fcMismatch := rfl
@[simp] theorem State.rewind_fallback (s : State) : (s.rewind).fallback = s.fallback := rfl
@[simp] theorem State.rewind_params (s : State) : (s.rewind).params = s.params := rfl
@[simp] theorem State.rewind_inputs (s : State) : (s.rewind).inputs = s.inputs := rfl
@[simp] theorem State.rewind_outputs (s : State) : (s.rewind).outputs = s.outputs := rfl

/-! ### dial -/

@[simp] theorem State.dial_irqEn (s : State) (p : Bool) : (s.dial p).irqEn = s.irqEn := rfl
@[simp] theorem State.dial_slave (s : State) (p : Bool) : (s.dial p).slave = s.slave := rfl
@[simp] theorem State.dial_slaveSet (s : State) (p : Bool) : (s.dial p).slaveSet = s.slaveSet := rfl
@[simp] theorem State.dial_timeout (s : State) (p : Bool) : (s.dial p).timeout = s.timeout := rfl
@[simp] theorem State.dial_txfc (s : State) (p : Bool) : (s.dial p).txfc = s.txfc := rfl
@[simp] theorem State.dial_txlen (s : State) (p : Bool) : (s.dial p).txlen = s.txlen := rfl
@[simp] theorem State.dial_txcrc (s : State) (p : Bool) : (s.dial p).txcrc = s.txcrc := rfl
@[simp] theorem State.dial_rxlen (s : State) (p : Bool) : (s.dial p).rxlen = s.rxlen := rfl
@[simp] theorem State.dial_rxexp (s : State) (p : Bool) : (s.dial p).rxexp = s.rxexp := rfl
@[simp] theorem State.dial_rxcrc (s : State) (p : Bool) : (s.dial p).rxcrc = s.rxcrc := rfl
@[simp] theorem State.dial_crcAcc (s : State) (p : Bool) : (s.dial p).crcAcc = s.crcAcc := rfl
@[simp] theorem State.dial_txbuf (s : State) (p : Bool) : (s.dial p).txbuf = s.txbuf := rfl
@[simp] theorem State.dial_rxbuf (s : State) (p : Bool) : (s.dial p).rxbuf = s.rxbuf := rfl
@[simp] theorem State.dial_link (s : State) (p : Bool) : (s.dial p).link = s.link := rfl
@[simp] theorem State.dial_phase (s : State) (p : Bool) : (s.dial p).phase = .connecting := rfl
@[simp] theorem State.dial_txpos (s : State) (p : Bool) : (s.dial p).txpos = s.txpos := rfl
@[simp] theorem State.dial_pendingStart (s : State) (p : Bool) : (s.dial p).pendingStart = p := rfl
@[simp] theorem State.dial_deadline (s : State) (p : Bool) : (s.dial p).deadline = s.deadline := rfl
@[simp] theorem State.dial_done (s : State) (p : Bool) : (s.dial p).done = s.done := rfl
@[simp] theorem State.dial_reject (s : State) (p : Bool) : (s.dial p).reject = s.reject := rfl
@[simp] theorem State.dial_illegal (s : State) (p : Bool) : (s.dial p).illegal = s.illegal := rfl
@[simp] theorem State.dial_excess (s : State) (p : Bool) : (s.dial p).excess = s.excess := rfl
@[simp] theorem State.dial_crcMatch (s : State) (p : Bool) : (s.dial p).crcMatch = s.crcMatch := rfl
@[simp] theorem State.dial_err (s : State) (p : Bool) : (s.dial p).err = s.err := rfl
@[simp] theorem State.dial_excCode (s : State) (p : Bool) : (s.dial p).excCode = s.excCode := rfl
@[simp] theorem State.dial_fcMismatch (s : State) (p : Bool) : (s.dial p).fcMismatch = s.fcMismatch := rfl
@[simp] theorem State.dial_fallback (s : State) (p : Bool) : (s.dial p).fallback = s.fallback := rfl
@[simp] theorem State.dial_params (s : State) (p : Bool) : (s.dial p).params = s.params := rfl
@[simp] theorem State.dial_inputs (s : State) (p : Bool) : (s.dial p).inputs = s.inputs := rfl
@[simp] theorem State.dial_outputs (s : State) (p : Bool) : (s.dial p).outputs = s.outputs ++ [.dial] := rfl

/-! ### enterTx -/

@[simp] theorem State.enterTx_irqEn (s : State) : (s.enterTx).irqEn = s.irqEn := rfl
@[simp] theorem State.enterTx_slave (s : State) : (s.enterTx).slave = s.slave := rfl
@[simp] theorem State.enterTx_slaveSet (s : State) : (s.enterTx).slaveSet = s.slaveSet := rfl
@[simp] theorem State.enterTx_timeout (s : State) : (s.enterTx).timeout = s.timeout := rfl
@[simp] theorem State.enterTx_txfc (s : State) : (s.enterTx).txfc = s.txfc := rfl
@[simp] theorem State.enterTx_txlen (s : State) : (s.enterTx).txlen = s.txlen := rfl
@[simp] theorem State.enterTx_txcrc (s : State) : (s.enterTx).txcrc = s.txcrc := rfl
@[simp] theorem State.enterTx_rxlen (s : State) : (s.enterTx).rxlen = s.rxlen := rfl
@[simp] theorem State.enterTx_rxexp (s : State) : (s.enterTx).rxexp = s.rxexp := rfl
@[simp] theorem State.enterTx_rxcrc (s : State) : (s.enterTx).rxcrc = s.rxcrc := rfl
@[simp] theorem State.enterTx_crcAcc (s : State) : (s.enterTx).crcAcc = s.crcAcc := rfl
@[simp] theorem State.enterTx_txbuf (s : State) : (s.enterTx).txbuf = s.txbuf := rfl
@[simp] theorem State.enterTx_rxbuf (s : State) : (s.enterTx).rxbuf = s.rxbuf := rfl
@[simp] theorem State.enterTx_link (s : State) : (s.enterTx).link = s.link := rfl
@[simp] theorem State.enterTx_phase (s : State) : (s.enterTx).phase = .tx := rfl
@[simp] theorem State.enterTx_txpos (s : State) : (s.enterTx).txpos = s.txpos := rfl
@[simp] theorem State.enterTx_pendingStart (s : State) : (s.enterTx).pendingStart = s.pendingStart := rfl
@[simp] theorem State.enterTx_deadline (s : State) : (s.enterTx).deadline = s.deadline := rfl
@[simp] theorem State.enterTx_done (s : State) : (s.enterTx).done = s.done := rfl
@[simp] theorem State.enterTx_reject (s : State) : (s.enterTx).reject = s.reject := rfl
@[simp] theorem State.enterTx_illegal (s : State) : (s.enterTx).illegal = s.illegal := rfl
@[simp] theorem State.enterTx_excess (s : State) : (s.enterTx).excess = s.excess := rfl
@[simp] theorem State.enterTx_crcMatch (s : State) : (s.enterTx).crcMatch = s.crcMatch := rfl
@[simp] theorem State.enterTx_err (s : State) : (s.enterTx).err = s.err := rfl
@[simp] theorem State.enterTx_excCode (s : State) : (s.enterTx).excCode = s.excCode := rfl
@[simp] theorem State.enterTx_fcMismatch (s : State) : (s.enterTx).fcMismatch = s.fcMismatch := rfl
@[simp] theorem State.enterTx_fallback (s : State) : (s.enterTx).fallback = s.fallback := rfl
@[simp] theorem State.enterTx_params (s : State) : (s.enterTx).params = s.params := rfl
@[simp] theorem State.enterTx_inputs (s : State) : (s.enterTx).inputs = s.inputs := rfl
@[simp] theorem State.enterTx_outputs (s : State) : (s.enterTx).outputs = s.outputs := rfl

/-! ### storeRx -/

@[simp] theorem State.storeRx_irqEn (s : State) (b : Byte) : (s.storeRx b).irqEn = s.irqEn := rfl
@[simp] theorem State.storeRx_slave (s : State) (b : Byte) : (s.storeRx b).slave = s.slave := rfl
@[simp] theorem State.storeRx_slaveSet (s : State) (b : Byte) : (s.storeRx b).slaveSet = s.slaveSet := rfl
@[simp] theorem State.storeRx_timeout (s : State) (b : Byte) : (s.storeRx b).timeout = s.timeout := rfl
@[simp] theorem State.storeRx_txfc (s : State) (b : Byte) : (s.storeRx b).txfc = s.txfc := rfl
@[simp] theorem State.storeRx_txlen (s : State) (b : Byte) : (s.storeRx b).txlen = s.txlen := rfl
@[simp] theorem State.storeRx_txcrc (s : State) (b : Byte) : (s.storeRx b).txcrc = s.txcrc := rfl
@[simp] theorem State.storeRx_rxlen (s : State) (b : Byte) : (s.storeRx b).rxlen = s.rxlen + 1 := rfl
@[simp] theorem State.storeRx_rxexp (s : State) (b : Byte) : (s.storeRx b).rxexp = s.rxexp := rfl
@[simp] theorem State.storeRx_rxcrc (s : State) (b : Byte) : (s.storeRx b).rxcrc = s.rxcrc := rfl
@[simp] theorem State.storeRx_crcAcc (s : State) (b : Byte) : (s.storeRx b).crcAcc = s.crcAcc := rfl
@[simp] theorem State.storeRx_txbuf (s : State) (b : Byte) : (s.storeRx b).txbuf = s.txbuf := rfl
@[simp] theorem State.storeRx_rxbuf (s : State) (b : Byte) : (s.storeRx b).rxbuf = s.rxbuf.write s.rxlen.toNat b := rfl
@[simp] theorem State.storeRx_link (s : State) (b : Byte) : (s.storeRx b).link = s.link := rfl
@[simp] theorem State.storeRx_phase (s : State) (b : Byte) : (s.storeRx b).phase = s.phase := rfl
@[simp] theorem State.storeRx_txpos (s : State) (b : Byte) : (s.storeRx b).txpos = s.txpos := rfl
@[simp] theorem State.storeRx_pendingStart (s : State) (b : Byte) : (s.storeRx b).pendingStart = s.pendingStart := rfl
@[simp] theorem State.storeRx_deadline (s : State) (b : Byte) : (s.storeRx b).deadline = s.deadline := rfl
@[simp] theorem State.storeRx_done (s : State) (b : Byte) : (s.storeRx b).done = s.done := rfl
@[simp] theorem State.storeRx_reject (s : State) (b : Byte) : (s.storeRx b).reject = s.reject := rfl
@[simp] theorem State.storeRx_illegal (s : State) (b : Byte) : (s.storeRx b).illegal = s.illegal := rfl
@[simp] theorem State.storeRx_excess (s : State) (b : Byte) : (s.storeRx b).excess = s.excess := rfl
@[simp] theorem State.storeRx_crcMatch (s : State) (b : Byte) : (s.storeRx b).crcMatch = s.crcMatch := rfl
@[simp] theorem State.storeRx_err (s : State) (b : Byte) : (s.storeRx b).err = s.err := rfl
@[simp] theorem State.storeRx_excCode (s : State) (b : Byte) : (s.storeRx b).excCode = s.excCode := rfl
@[simp] theorem State.storeRx_fcMismatch (s : State) (b : Byte) : (s.storeRx b).fcMismatch = s.fcMismatch := rfl
@[simp] theorem State.storeRx_fallback (s : State) (b : Byte) : (s.storeRx b).fallback = s.fallback := rfl
@[simp] theorem State.storeRx_params (s : State) (b : Byte) : (s.storeRx b).params = s.params := rfl
@[simp] theorem State.storeRx_inputs (s : State) (b : Byte) : (s.storeRx b).inputs = s.inputs := rfl
@[simp] theorem State.storeRx_outputs (s : State) (b : Byte) : (s.storeRx b).outputs = s.outputs := rfl

/-! ### expectLength -/

@[simp] theorem State.expectLength_irqEn (s : State) (n : Nat) (fb : Bool) : (s.expectLength n fb).irqEn = s.irqEn := rfl
@[simp] theorem State.expectLength_slave (s : State) (n : Nat) (fb : Bool) : (s.expectLength n fb).slave = s.slave := rfl
@[simp] theorem State.expectLength_slaveSet (s : State) (n : Nat) (fb : Bool) : (s.expectLength n fb).slaveSet = s.slaveSet := rfl
@[simp] theorem State.expectLength_timeout (s : State) (n : Nat) (fb : Bool) : (s.expectLength n fb).timeout = s.timeout := rfl
@[simp] theorem State.expectLength_txfc (s : State) (n : Nat) (fb : Bool) : (s.expectLength n fb).txfc = s.txfc := rfl
@[simp] theorem State.expectLength_txlen (s : State) (n : Nat) (fb : Bool) : (s.expectLength n fb).txlen = s.txlen := rfl
@[simp] theorem State.expectLength_txcrc (s : State) (n : Nat) (fb : Bool) : (s.expectLength n fb).txcrc = s.txcrc := rfl
@[simp] theorem State.expectLength_rxlen (s : State) (n : Nat) (fb : Bool) : (s.expectLength n fb).rxlen = s.rxlen := rfl
@[simp] theorem State.expectLength_rxexp (s : State) (n : Nat) (fb : Bool) : (s.expectLength n fb).rxexp = BitVec.ofNat 9 n := rfl
@[simp] theorem State.expectLength_rxcrc (s : State) (n : Nat) (fb : Bool) : (s.expectLength n fb).rxcrc = s.rxcrc := rfl
@[simp] theorem State.expectLength_crcAcc (s : State) (n : Nat) (fb : Bool) : (s.expectLength n fb).crcAcc = s.crcAcc := rfl
@[simp] theorem State.expectLength_txbuf (s : State) (n : Nat) (fb : Bool) : (s.expectLength n fb).txbuf = s.txbuf := rfl
@[simp] theorem State.expectLength_rxbuf (s : State) (n : Nat) (fb : Bool) : (s.expectLength n fb).rxbuf = s.rxbuf := rfl
@[simp] theorem State.expectLength_link (s : State) (n : Nat) (fb : Bool) : (s.expectLength n fb).link = s.link := rfl
@[simp] theorem State.expectLength_phase (s : State) (n : Nat) (fb : Bool) : (s.expectLength n fb).phase = s.phase := rfl
@[simp] theorem State.expectLength_txpos (s : State) (n : Nat) (fb : Bool) : (s.expectLength n fb).txpos = s.txpos := rfl
@[simp] theorem State.expectLength_pendingStart (s : State) (n : Nat) (fb : Bool) : (s.expectLength n fb).pendingStart = s.pendingStart := rfl
@[simp] theorem State.expectLength_deadline (s : State) (n : Nat) (fb : Bool) : (s.expectLength n fb).deadline = s.deadline := rfl
@[simp] theorem State.expectLength_done (s : State) (n : Nat) (fb : Bool) : (s.expectLength n fb).done = s.done := rfl
@[simp] theorem State.expectLength_reject (s : State) (n : Nat) (fb : Bool) : (s.expectLength n fb).reject = s.reject := rfl
@[simp] theorem State.expectLength_illegal (s : State) (n : Nat) (fb : Bool) : (s.expectLength n fb).illegal = s.illegal := rfl
@[simp] theorem State.expectLength_excess (s : State) (n : Nat) (fb : Bool) : (s.expectLength n fb).excess = s.excess := rfl
@[simp] theorem State.expectLength_crcMatch (s : State) (n : Nat) (fb : Bool) : (s.expectLength n fb).crcMatch = s.crcMatch := rfl
@[simp] theorem State.expectLength_err (s : State) (n : Nat) (fb : Bool) : (s.expectLength n fb).err = s.err := rfl
@[simp] theorem State.expectLength_excCode (s : State) (n : Nat) (fb : Bool) : (s.expectLength n fb).excCode = s.excCode := rfl
@[simp] theorem State.expectLength_fcMismatch (s : State) (n : Nat) (fb : Bool) : (s.expectLength n fb).fcMismatch = s.fcMismatch := rfl
@[simp] theorem State.expectLength_fallback (s : State) (n : Nat) (fb : Bool) : (s.expectLength n fb).fallback = (s.fallback || fb) := rfl
@[simp] theorem State.expectLength_params (s : State) (n : Nat) (fb : Bool) : (s.expectLength n fb).params = s.params := rfl
@[simp] theorem State.expectLength_inputs (s : State) (n : Nat) (fb : Bool) : (s.expectLength n fb).inputs = s.inputs := rfl
@[simp] theorem State.expectLength_outputs (s : State) (n : Nat) (fb : Bool) : (s.expectLength n fb).outputs = s.outputs := rfl

end Sys2Proof.Machine
end

