-- ==== Sys2Proof/Laws/Memory.lean ====
section
/-! SUPPORT. The laws of the byte buffers: a read after a write, and the canonical form that every operation keeps. -/

namespace Sys2Proof.Machine

@[simp] theorem Memory.find_nil (i : Nat) : Memory.find [] i = none := rfl

theorem Memory.find_write_same (m : Memory) (i : Nat) (b : Byte) : Memory.find (m.write i b) i = some b := by
  induction m with
  | nil => simp [Memory.write, Memory.find]
  | cons c rest ih =>
    obtain ⟨j, d⟩ := c
    rcases lt_trichotomy i j with h | h | h
    · simp [Memory.write, Memory.find, h]
    · subst h; simp [Memory.write, Memory.find]
    · simp [Memory.write, Memory.find, Nat.not_lt.mpr h.le, h.ne, h.ne', ih]

theorem Memory.find_write_ne (m : Memory) {i k : Nat} (b : Byte) (hk : k ≠ i) :
    Memory.find (m.write i b) k = m.find k := by
  induction m with
  | nil => simp [Memory.write, Memory.find, Ne.symm hk]
  | cons c rest ih =>
    obtain ⟨j, d⟩ := c
    rcases lt_trichotomy i j with h | h | h
    · simp [Memory.write, Memory.find, h, Ne.symm hk]
    · subst h; simp [Memory.write, Memory.find, Ne.symm hk]
    · simp [Memory.write, Memory.find, Nat.not_lt.mpr h.le, h.ne', ih]

/-- What a read of a buffer gives after a write: the byte at the written index, the old value elsewhere. -/
theorem Memory.read_write (draw : Nat → Byte) (m : Memory) (i k : Nat) (b : Byte) :
    (m.write i b).read draw k = if k = i then b else m.read draw k := by
  by_cases h : k = i
  · subst h; simp [Memory.read, Memory.find_write_same]
  · simp [Memory.read, Memory.find_write_ne m b h, h]

theorem Memory.risingFrom_mono {m : Memory} {lo lo' : Nat} (h : lo' ≤ lo) (hm : m.risingFrom lo = true) :
    m.risingFrom lo' = true := by
  cases m with
  | nil => rfl
  | cons c rest =>
    obtain ⟨j, d⟩ := c
    simp only [Memory.risingFrom, Bool.and_eq_true, decide_eq_true_eq] at hm ⊢
    exact ⟨⟨by omega, hm.1.2⟩, hm.2⟩

theorem Memory.risingFrom_write {i : Nat} (hi : i < Config.maxAdu) (b : Byte) (m : Memory) (lo : Nat) (hlo : lo ≤ i)
    (hm : m.risingFrom lo = true) : (m.write i b).risingFrom lo = true := by
  induction m generalizing lo with
  | nil => simp [Memory.write, Memory.risingFrom, hi, hlo]
  | cons c rest ih =>
    obtain ⟨j, d⟩ := c
    simp only [Memory.risingFrom, Bool.and_eq_true, decide_eq_true_eq] at hm
    obtain ⟨⟨hj, hj'⟩, hrest⟩ := hm
    rcases lt_trichotomy i j with h | h | h
    · simp only [Memory.write, h, if_true, Memory.risingFrom, Bool.and_eq_true, decide_eq_true_eq]
      exact ⟨⟨hlo, hi⟩, ⟨by omega, hj'⟩, hrest⟩
    · subst h
      simp only [Memory.write, lt_irrefl, if_false, if_true, Memory.risingFrom, Bool.and_eq_true, decide_eq_true_eq]
      exact ⟨⟨hlo, hi⟩, hrest⟩
    · simp only [Memory.write, Nat.not_lt.mpr h.le, h.ne', if_false, Memory.risingFrom, Bool.and_eq_true, decide_eq_true_eq]
      exact ⟨⟨hj, hj'⟩, ih (j + 1) (by omega) hrest⟩

/-- A write to an entry that exists keeps the canonical form. -/
theorem Memory.wf_write {i : Nat} (hi : i < Config.maxAdu) (b : Byte) {m : Memory} (hm : m.wf = true) :
    (m.write i b).wf = true :=
  Memory.risingFrom_write hi b m 0 (Nat.zero_le i) hm

theorem Memory.wf_nil : Memory.wf [] = true := rfl

@[simp] theorem State.txAt_writeTx (s : State) (i k : Nat) (b : Byte) :
    (s.writeTx i b).txAt k = if k = i then b else s.txAt k :=
  Memory.read_write Config.powerUpTxByte s.txbuf i k b

@[simp] theorem State.rxAt_writeRx (s : State) (i k : Nat) (b : Byte) :
    (s.writeRx i b).rxAt k = if k = i then b else s.rxAt k :=
  Memory.read_write Config.powerUpRxByte s.rxbuf i k b

@[simp] theorem State.rxAt_storeRx (s : State) (k : Nat) (b : Byte) :
    (s.storeRx b).rxAt k = if k = s.rxlen.toNat then b else s.rxAt k :=
  Memory.read_write Config.powerUpRxByte s.rxbuf s.rxlen.toNat k b

@[simp] theorem State.length_txBytes (s : State) (n : Nat) : (s.txBytes n).length = n := by
  simp [State.txBytes]

@[simp] theorem State.length_rxBytes (s : State) (n : Nat) : (s.rxBytes n).length = n := by
  simp [State.rxBytes]

theorem State.rxBytes_succ (s : State) (n : Nat) : s.rxBytes (n + 1) = s.rxBytes n ++ [s.rxAt n] := by
  simp [State.rxBytes, List.range_succ]

theorem State.txBytes_succ (s : State) (n : Nat) : s.txBytes (n + 1) = s.txBytes n ++ [s.txAt n] := by
  simp [State.txBytes, List.range_succ]

/-- Two states with the same buffer and the same request registers send the same body. -/
theorem State.txBody_congr {s t : State} (hs : t.slave = s.slave) (hf : t.txfc = s.txfc) (hn : t.txlen = s.txlen)
    (hb : t.txbuf = s.txbuf) : t.txBody = s.txBody := by
  have h : t.txAt = s.txAt := by funext i; simp [State.txAt, hb]
  simp [State.txBody, State.txBytes, hs, hf, hn, h]

end Sys2Proof.Machine
end

