-- ==== Sys2Proof/Laws/Ops.lean ====
section
/-! SUPPORT. One lemma per shared operation that says once everything it can do. -/

namespace Sys2Proof.Machine

/-! ### The lock and completion -/

theorem State.busy_iff (s : State) : s.busy = true ↔ s.phase ≠ .idle := by
  simp [State.busy]

/-- An engine command is refused exactly while BUSY, or for want of a slave address. -/
theorem State.refuses_iff (s : State) (needsSlave : Bool) :
    s.refuses needsSlave = true ↔ s.phase ≠ .idle ∨ (needsSlave = true ∧ s.slaveSet = false) := by
  simp [State.refuses, State.busy]

/-- A command that is not refused finds the block idle. -/
theorem State.idle_of_not_refuses {s : State} {needsSlave : Bool} (h : s.refuses needsSlave = false) :
    s.phase = .idle ∧ (needsSlave = true → s.slaveSet = true) := by
  have hn := mt (s.refuses_iff needsSlave).mpr (by simp [h])
  cases hs : s.slaveSet <;> simp_all

/-- Outside RX, only the four transport errors invalidate the link. -/
theorem ErrCode.invalidates_of_ne_rx {e : ErrCode} {p : Phase} (hp : p ≠ .rx) : e.invalidates p = e.alwaysTransport := by
  simp [ErrCode.invalidates, hp]

/-- What the verifier can return: never a transport error. -/
theorem State.verify_not_transport (s : State) (l : Nat) : (s.verify l).err.alwaysTransport = false := by
  unfold State.verify State.verifyCrc State.verifyContent State.verdictKeeping
  split_ifs <;> rfl

/-- EXC_CODE and FC_MISMATCH after a verification that starts with both clear (as accept() leaves them). -/
theorem State.verify_clean {s : State} (hx : s.excCode = 0) (hf : s.fcMismatch = false) (l : Nat) :
    ((s.verify l).err ≠ .exceptionResponse → (s.verify l).excCode = 0) ∧
      ((s.verify l).fcMismatch = true → (s.verify l).err = .ok) := by
  unfold State.verify State.verifyCrc State.verifyContent State.verdictKeeping
  split_ifs <;> simp [hx, hf]

/-! ### The commands -/

/-- Every command answers a next state. -/
theorem exec_answers_next (i : Instr) (s : State) : ∃ t, exec i s = .next t := by
  cases i <;>
    simp only [exec, execNop, execCrcInit, execCrcByte, execCrcVerify, execEncode, execDecode, execStart, execConnect,
      execClose] <;>
    first
      | exact ⟨_, rfl⟩
      | (split <;> exact ⟨_, rfl⟩)

/-- A write to CMD runs the decoded command, or marks a reserved word. -/
theorem writeCmd_next (v : Word) (s : State) :
    (∃ i, decode v = .ok i ∧ writeCmd v s = exec i s) ∨ ((∃ r, decode v = .error r) ∧ writeCmd v s = .next s.markIllegal) := by
  unfold writeCmd
  cases decode v with
  | ok i => exact .inl ⟨i, rfl, rfl⟩
  | error r => exact .inr ⟨⟨r, rfl⟩, rfl⟩

/-- A host write is a write to CMD, or a store. -/
theorem onHostWrite_cases (a : HostAddr) (v : Word) (s : State) :
    (busTarget a = .reg .cmd ∧ onHostWrite a v s = writeCmd v s) ∨
      (busTarget a ≠ .reg .cmd ∧ onHostWrite a v s = .next (onStore (busTarget a) v s)) := by
  unfold onHostWrite
  split
  · exact .inl ⟨by assumption, rfl⟩
  · exact .inr ⟨by assumption, rfl⟩

/-! ### The events that can stop -/

theorem onTxPull_next {s t : State} (h : onTxPull s = .next t) :
    (s.phase ≠ .tx ∧ t = s) ∨
      (s.phase = .tx ∧ s.txInFrame = true ∧ t = (s.emit (.txByte (s.txByte s.txpos.toNat))).advanceTx) := by
  unfold onTxPull at h
  split_ifs at h with hp hf
  · exact .inl ⟨hp, by injection h with h; exact h.symm⟩
  · exact .inr ⟨not_not.mp hp, hf, by injection h with h; exact h.symm⟩

theorem State.reassemble_next {s t : State} (h : s.reassemble = .next t) :
    (s.rxexp ≠ 0 ∧ t = s.finishRx) ∨
      (s.rxexp = 0 ∧
        ((s.dispatch = .wait ∧ t = s.finishRx) ∨
          (∃ n fb, s.dispatch = .expect n fb ∧ t = (s.expectLength n fb).finishRx) ∨
          (s.dispatch = .lengthError ∧ t = s.complete .lengthError))) := by
  unfold State.reassemble State.sizeRx at h
  split_ifs at h with hx
  · refine .inr ⟨hx, ?_⟩
    split at h
    · exact .inl ⟨by assumption, by injection h with h; exact h.symm⟩
    · exact .inr (.inl ⟨_, _, by assumption, by injection h with h; exact h.symm⟩)
    · exact .inr (.inr ⟨by assumption, by injection h with h; exact h.symm⟩)
    · cases h
  · exact .inl ⟨hx, by injection h with h; exact h.symm⟩

theorem onRxByte_next {b : Byte} {s t : State} (h : onRxByte b s = .next t) :
    (s.phase ≠ .rx ∧ t = s.markExcess) ∨
      (s.phase = .rx ∧ s.rxlen.toNat < Config.maxAdu ∧ (s.storeRx b).reassemble = .next t) := by
  unfold onRxByte at h
  split_ifs at h with hp hl
  · exact .inl ⟨hp, by injection h with h; exact h.symm⟩
  · exact .inr ⟨not_not.mp hp, hl, h⟩

/-- The completion test of an RxByte step either completes or changes nothing. -/
theorem State.finishRx_cases (s : State) :
    (s.rxexp ≠ 0 ∧ s.rxlen = s.rxexp ∧ s.finishRx = s.completeVerify s.rxlen.toNat) ∨
      (¬(s.rxexp ≠ 0 ∧ s.rxlen = s.rxexp) ∧ s.finishRx = s) := by
  unfold State.finishRx
  split_ifs with h
  · exact .inl ⟨h.1, h.2, rfl⟩
  · exact .inr ⟨h, rfl⟩

theorem onTick_cases (s : State) :
    ((s.phase = .idle ∨ s.deadline = 0) ∧ onTick s = s) ∨
      (s.phase ≠ .idle ∧ s.deadline ≠ 0 ∧ s.deadline - 1 = 0 ∧ onTick s = s.countDown.expire) ∨
      (s.phase ≠ .idle ∧ s.deadline ≠ 0 ∧ s.deadline - 1 ≠ 0 ∧ onTick s = s.countDown) := by
  unfold onTick
  split_ifs with h1 h2
  · exact .inl ⟨h1, rfl⟩
  · exact .inr (.inl ⟨fun h => h1 (.inl h), fun h => h1 (.inr h), h2, rfl⟩)
  · exact .inr (.inr ⟨fun h => h1 (.inl h), fun h => h1 (.inr h), h2, rfl⟩)

/-! ### The step -/

/-- With an input to come, a step is that event's effect. -/
theorem step_cons {s : State} {e : Event} {rest : List Event} (h : s.inputs = e :: rest) :
    step s = handleEvent e { s with inputs := rest } := by
  simp only [step, h]

/-- With none, the block holds its state. -/
theorem step_nil {s : State} (h : s.inputs = []) : step s = .next s := by
  simp only [step, h]

end Sys2Proof.Machine
end

