-- ==== Sys2Proof/Laws/PerInstr.lean ====
section
/-! SUPPORT. For every command: its word carries its fields, and its fields are well formed (30_encoding.md R80 to R83). -/

namespace Sys2Proof

/-- The word H ‖ B ‖ OP, from bit 31 down, has the fields OP, B and H. -/
theorem wordFields_append (h : Half) (b o : Byte) : wordFields (h ++ b ++ o) = ⟨o, b, h⟩ := by
  simp only [wordFields, opField, immB, immH, CommandFields.mk.injEq]
  refine ⟨?_, ?_, ?_⟩ <;> apply BitVec.eq_of_getLsbD_eq <;> intro i hi <;>
    rw [BitVec.getLsbD_extractLsb', BitVec.getLsbD_append, BitVec.getLsbD_append]
  · simp [hi]
  · simp [hi]
  · have h16 : 16 + i - 8 - 8 = i := by omega
    simp [hi, show ¬16 + i < 8 by omega, show ¬16 + i - 8 < 8 by omega, h16]

end Sys2Proof

namespace Sys2Proof.Laws.WordCarriesFields

/-- The encoder puts the command's OP, B and H in the word's three fields, and they make a well-formed command. -/
def Statement (i : Instr) : Prop :=
  wordFields (encode i) = i.fields ∧ i.wellFormed = true

theorem nop : Statement .nop := ⟨wordFields_append _ _ _, rfl⟩

theorem crcInit : Statement .crcInit := ⟨wordFields_append _ _ _, rfl⟩

theorem crcByte (b : Byte) : Statement (.crcByte b) :=
  ⟨wordFields_append _ _ _, by simp [Instr.wellFormed, Instr.fields, CommandFields.wellFormed, CommandFields.opKnown,
    CommandFields.bAllowed, CommandFields.hAllowed]⟩

theorem crcVerify (h : Half) : Statement (.crcVerify h) :=
  ⟨wordFields_append _ _ _, by simp [Instr.wellFormed, Instr.fields, CommandFields.wellFormed, CommandFields.opKnown,
    CommandFields.bAllowed, CommandFields.hAllowed]⟩

theorem encode : Statement .encode := ⟨wordFields_append _ _ _, rfl⟩

theorem decode : Statement .decode := ⟨wordFields_append _ _ _, rfl⟩

theorem start : Statement .start := ⟨wordFields_append _ _ _, rfl⟩

theorem connect : Statement .connect := ⟨wordFields_append _ _ _, rfl⟩

theorem close : Statement .close := ⟨wordFields_append _ _ _, rfl⟩

end Sys2Proof.Laws.WordCarriesFields
end

