-- ==== Sys2Proof/Laws/Run.lean ====
section
/-! SUPPORT. Runs over a list of events, one event at a time. -/

namespace Sys2Proof.Machine

theorem steps_zero (s : State) : steps 0 s = .next s := rfl

theorem steps_succ_of_next {s t : State} (h : step s = .next t) (k : Nat) : steps (k + 1) s = steps k t := by
  simp only [steps, h]

theorem runEvents_nil (s : State) : s.runEvents [] = .next { s with inputs := [] } := rfl

/-- Where the first event's effect leaves the inputs alone, the rest of a run is a run again. -/
theorem runEvents_cons {s t : State} {e : Event} {es : List Event}
    (h : handleEvent e { s with inputs := es } = .next t) (hi : t.inputs = es) : s.runEvents (e :: es) = t.runEvents es := by
  have hs : step { s with inputs := e :: es } = .next t := by rw [step_cons rfl]; exact h
  rw [State.runEvents, List.length_cons, steps_succ_of_next hs, State.runEvents, ← hi]

/-- Steps in a row. -/
theorem steps_add (j k : Nat) {s t : State} (h : steps j s = .next t) : steps (j + k) s = steps k t := by
  induction j generalizing s with
  | zero =>
    injection h with h
    rw [h, Nat.zero_add]
  | succ n ih =>
    rw [Nat.add_right_comm]
    simp only [steps] at h ⊢
    cases hs : step s with
    | next u => rw [hs] at h; exact ih h
    | fault r => rw [hs] at h; cases h
    | refused r => rw [hs] at h; cases h

end Sys2Proof.Machine
end

