-- ==== Sys2Proof/Tests/Slice0.lean ====
section
/-! SUPPORT. The model's own tests: the checks refuse ill-formed terms, words written out bit by bit decode, single steps give
the values of 95_test_vectors.md, and every hypothesis of every obligation is met by some state. -/

namespace Sys2Proof.Tests
open Sys2Proof Sys2Proof.Machine

-- One theorem at a time: elaborated together, their threads ask for more memory than the check grants.
set_option Elab.async false

/-! ### States -/

/-- The vectors' parameters (95_test_vectors.md: DEFAULT_TIMEOUT_TICKS = 100), with a tick of 10 ms. -/
def vectorParams : Params := ⟨10000000, 100, defaultFcTable⟩

/-- S0 of 95_test_vectors.md, with the power-up Hangup already taken. -/
def s0 : State := State.cleared vectorParams [] [] [] []

/-- S1-unlinked with the L1-1 request loaded: slave 1, function 0x03, data 00 00 00 02. -/
def unlinked : State :=
  { s0 with slave := 0x01, slaveSet := true, txfc := 0x03, txlen := 4, txbuf := [(0, 0x00), (1, 0x00), (2, 0x00), (3, 0x02)] }

/-- S1 with the L1-1 request loaded. -/
def linked : State := { unlinked with link := true }

/-- `linked` with another payload length. -/
def withLength (n : Nat) : State := { linked with txlen := BitVec.ofNat 16 n }

/-- A block dialling for a START, or for a CONNECT. -/
def dialling (pending : Bool) : State :=
  { unlinked with phase := .connecting, pendingStart := pending, txcrc := 0x0BC4, deadline := 100 }

/-- A block sending the L1-1 frame. -/
def sending (pos : Byte) : State := { linked with phase := .tx, txpos := pos, txcrc := 0x0BC4, deadline := 100 }

/-- A block that has received the first bytes of a reply. -/
def receiving (bytes : List Byte) (expected : BitVec 9) : State :=
  { linked with
    phase := .rx, txpos := 7, txcrc := 0x0BC4, deadline := 1, rxexp := expected
    rxbuf := bytes.zipIdx.map (fun p => (p.2, p.1)), rxlen := BitVec.ofNat 9 bytes.length }

/-- A block that holds a frame to DECODE. -/
def holding (bytes : List Byte) : State := { receiving bytes 0 with phase := .idle, deadline := 0 }

/-- The L1-2 reply without its last byte. -/
def replyHead : List Byte := [0x01, 0x03, 0x04, 0x00, 0x0A, 0x00, 0x0B, 0x9B]

/-- The state an outcome gives, if it gives one. -/
def after (o : Host.Outcome State Fault Refusal) : Option State :=
  match o with
  | .next t => some t
  | .fault _ => none
  | .refused _ => none

/-- A field of the state an outcome gives. -/
def field {α : Type} (f : State → α) (o : Host.Outcome State Fault Refusal) : Option α := (after o).map f

/-! ### Well-formedness: an ill-formed term for each check -/

theorem test_unknown_opcode_refused : CommandFields.wellFormed ⟨0x04, 0, 0⟩ = false := by decide

theorem test_reserved_b_refused : CommandFields.wellFormed ⟨0x01, 0x01, 0⟩ = false := by decide

theorem test_reserved_h_refused : CommandFields.wellFormed ⟨0x02, 0xC4, 1⟩ = false := by decide

theorem test_zero_period_refused : Params.wellFormed ⟨0, 100, defaultFcTable⟩ = false := by decide

theorem test_short_timeout_refused : Params.wellFormed ⟨10000000, 99, defaultFcTable⟩ = false := by decide

theorem test_long_timeout_refused : Params.wellFormed ⟨10000000, 901, defaultFcTable⟩ = false := by decide

theorem test_unclassed_read_refused : Params.wellFormed ⟨10000000, 100, [(0x03, .other)]⟩ = false := by decide

theorem test_vector_params_accepted : vectorParams.wellFormed = true := by decide

theorem test_unsorted_buffer_refused : Memory.wf [(1, 0x00), (0, 0x00)] = false := by decide

theorem test_oversized_buffer_refused : Memory.wf [(256, 0x00)] = false := by decide

theorem test_write_keeps_order : Memory.write [(0, 0x0A), (2, 0x0C)] 1 0x0B = [(0, 0x0A), (1, 0x0B), (2, 0x0C)] := by decide

/-! ### Decoding (the encodings of 30_encoding.md R82, the words of V-CRC-5 and R84) -/

theorem test_decode_nop : decode 0b00000000000000000000000000000000#32 = .ok .nop := by rfl

theorem test_decode_crc_init : decode 0b00000000000000000000000000000001#32 = .ok .crcInit := by rfl

theorem test_decode_crc_byte : decode 0b00000000000000001100010000000010#32 = .ok (.crcByte 0xC4) := by rfl

theorem test_decode_crc_verify : decode 0b00001011110001000000000000000011#32 = .ok (.crcVerify 0x0BC4) := by rfl

theorem test_decode_encode : decode 0b00000000000000000000000000010000#32 = .ok .encode := by rfl

theorem test_decode_decode : decode 0b00000000000000000000000000010001#32 = .ok .decode := by rfl

theorem test_decode_start : decode 0b00000000000000000000000000010010#32 = .ok .start := by rfl

theorem test_decode_connect : decode 0b00000000000000000000000000100000#32 = .ok .connect := by rfl

theorem test_decode_close : decode 0b00000000000000000000000000100001#32 = .ok .close := by rfl

theorem test_reserved_h_word : decode 0x00010002 = .error (.reservedField 0x02) := by rfl

theorem test_reserved_b_word : decode 0x00000110 = .error (.reservedField 0x10) := by rfl

theorem test_reserved_opcode_word : decode 0x00000105 = .error (.unknownOpcode 0x05) := by rfl

theorem test_rows_disjoint :
    opTable.Pairwise (fun r q => r.pattern &&& (r.mask &&& q.mask) ≠ q.pattern &&& (r.mask &&& q.mask)) := by
  simp only [opTable]; decide

/-! ### One step of each command -/

/-- V-CRC-1: crc16 of `01 03 00 00 00 02`. -/
theorem test_crc16_request : crc16 [0x01, 0x03, 0x00, 0x00, 0x00, 0x02] = 0x0BC4 := by decide +kernel

/-- V-CRC-6: the check value of CRC-16/MODBUS. -/
theorem test_crc16_check_value : crc16 [0x31, 0x32, 0x33, 0x34, 0x35, 0x36, 0x37, 0x38, 0x39] = 0x4B37 := by decide +kernel

/-- V-CRC-4: T[0x01] and T[0x80]. -/
theorem test_crc_table : crcTable 0x01 = 0xC0C1 ∧ crcTable 0x80 = 0xA001 := by decide +kernel

/-- L1-7: a flipped bit is detected. -/
theorem test_flip_detected :
    crcPasses (flipBit [0x01, 0x03, 0x00, 0x00, 0x00, 0x02, 0xC4, 0x0B] 6 7) = false := by decide +kernel

theorem test_nop : exec .nop linked = .next linked := by rfl

/-- V-CRC-5, second row. -/
theorem test_crc_init : field (·.crcAcc) (exec .crcInit { s0 with crcAcc := 0x1234 }) = some 0xFFFF := by decide

/-- V-CRC-5, first row: CRC_ACC resets to 0xFFFF. -/
theorem test_crc_byte : field (·.crcAcc) (exec (.crcByte 0x01) s0) = some 0x807E := by decide +kernel

/-- V-CRC-5: the byte order of the immediate. -/
theorem test_crc_verify :
    field (·.crcMatch) (exec (.crcVerify 0x0BC4) { s0 with crcAcc := 0x0BC4 }) = some true ∧
      field (·.crcMatch) (exec (.crcVerify 0xC40B) { s0 with crcAcc := 0x0BC4, crcMatch := true }) = some false := by decide

/-- L1-1: ENCODE of the request gives TXCRC = 0x0BC4, completed OK. -/
theorem test_encode : field (fun t => (t.txcrc, t.statusWord)) (exec .encode linked) = some (0x0BC4, 0x00000006) := by
  decide +kernel

/-- V-COD-1: 253 bytes are too many, and TXCRC stays. -/
theorem test_encode_too_long :
    field (fun t => (t.err, t.txcrc)) (exec .encode { withLength 253 with txcrc := 0x1234 }) =
      some (.payloadTooLong, 0x1234) := by decide +kernel

/-- V-COD-3: `02 83 02 30 F1`, the address before the exception. -/
theorem test_decode_address_first :
    field (fun t => (t.err, t.excCode, t.rxcrc)) (exec .decode (holding [0x02, 0x83, 0x02, 0x30, 0xF1])) =
      some (.addressMismatch, 0x00, 0xF130) := by decide +kernel

/-- V-COD-3, L1-4: `01 83 02 C0 F1`, an exception with code 0x02, the link kept. -/
theorem test_decode_exception :
    field (fun t => (t.err, t.excCode, t.link)) (exec .decode (holding [0x01, 0x83, 0x02, 0xC0, 0xF1])) =
      some (.exceptionResponse, 0x02, true) := by decide +kernel

/-- P4 line 13: without a link START dials once. -/
theorem test_start_dials :
    field (fun t => (t.statusWord, t.outputs, t.deadline)) (exec .start { unlinked with timeout := 5 }) =
      some (0x00000001, [.dial], 5) := by decide +kernel

/-- P7 line 6: a START while BUSY sets REJECT only. -/
theorem test_start_refused : exec .start (sending 0) = .next { sending 0 with reject := true } := by rfl

/-- V-COD-5: CONNECT needs no SLAVE_SET. -/
theorem test_connect_dials : field (fun t => (t.phase, t.outputs)) (exec .connect s0) = some (.connecting, [.dial]) := by decide

/-- V-TR-4: CONNECT with a link completes at once. -/
theorem test_connect_linked : field (fun t => (t.statusWord, t.outputs)) (exec .connect linked) = some (0x00000006, []) := by
  decide

/-- V-TR-4: CLOSE, and CLOSE again. -/
theorem test_close :
    field (fun t => (t.link, t.outputs)) (exec .close linked) = some (false, [.hangup]) ∧
      field (fun t => (t.statusWord, t.outputs)) (exec .close unlinked) = some (0x00000002, []) := by decide

/-! ### One step of other events -/

/-- V-COD-2: byte 6 of the frame is TXCRC[7:0], byte 7 TXCRC[15:8]. -/
theorem test_tx_crc_bytes : (sending 6).txData = 0xC4 ∧ (sending 7).txData = 0x0B := by decide

/-- L1-2: the third byte gives RXEXP = 9. -/
theorem test_byte_count : field (·.rxexp) (handleEvent (.rxByte 0x04) (receiving [0x01, 0x03] 0)) = some 9 := by
  decide +kernel

/-- V-LEN-1: a byte count of 252 completes with LENGTH_ERROR, LINK 0 and a Hangup. -/
theorem test_byte_count_too_large :
    field (fun t => (t.err, t.link, t.outputs)) (handleEvent (.rxByte 0xFC) (receiving [0x01, 0x03] 0)) =
      some (.lengthError, false, [.hangup]) := by decide +kernel

/-- L1-2: the ninth byte completes with OK and RXCRC = 0xF69B. -/
theorem test_reply_completes :
    field (fun t => (t.err, t.rxcrc, t.statusWord)) (handleEvent (.rxByte 0xF6) (receiving replyHead 9)) =
      some (.ok, 0xF69B, 0x00000006) := by decide +kernel

/-- V-TR-1: the last Tick of the deadline. -/
theorem test_expiry :
    field (fun t => (t.statusWord, t.outputs)) (handleEvent .tick (receiving [0x01, 0x03] 0)) =
      some (0x00040002, [.hangup]) := by decide +kernel

/-- V-COD-4: RXLEN keeps 9 bits. -/
theorem test_rxlen_width : field (·.rxlen) (handleEvent (.hostWrite 0x020 0x3FF) linked) = some 511 := by decide +kernel

/-- V-CRC-5: bits 31:16 of a write to CRC_ACC are dropped. -/
theorem test_crc_acc_width : field (·.crcAcc) (handleEvent (.hostWrite 0x02C 0xABCD1234) (sending 0)) = some 0x1234 := by
  decide +kernel

/-! ### Every hypothesis of every obligation is met -/

theorem witness_DecodeOfEncodeIsTheCommand : Instr.wellFormed (.crcVerify 0xFFFF) = true := by decide

theorem witness_EncodeOfDecodeIsTheWord : decode 0x0000FF02 = .ok (.crcByte 0xFF) := by rfl

theorem witness_ReservedWordsOnlyFlagIllegal :
    (0x003#12 &&& 0xFFC#12 = 0 ∧ (wordFields 0x00000105).wellFormed = false) ∧ (wordFields 0x00010002).wellFormed = false ∧
      (wordFields 0x00000110).wellFormed = false := by decide

theorem witness_StepRunsDecodedCommand :
    (0x003#12 &&& 0xFFC#12 = 0 ∧
        ({ linked with inputs := [.hostWrite 0x003 0x12, .tick] } : State).inputs = .hostWrite 0x003 0x12 :: [.tick] ∧
        decode 0x12 = .ok .start) ∧
      ({ linked with inputs := [.hostRead 0x003] } : State).inputs = .hostRead 0x003 :: [] :=
  ⟨⟨by decide, rfl, rfl⟩, rfl⟩

theorem witness_StepConsumesOneEvent :
    (step linked = .next linked ∧ linked.inputs = []) ∧
      ∃ t, step { linked with inputs := [.linkDown, .tick] } = .next t ∧
        ({ linked with inputs := [.linkDown, .tick] } : State).inputs = .linkDown :: [.tick] :=
  ⟨⟨rfl, rfl⟩, _, rfl, rfl⟩

theorem witness_SingleBitFlipsAreDetected : 0 < ([] : List Byte).length + 2 ∧ 1 < ([] : List Byte).length + 2 ∧ 7 < 8 := by decide

theorem witness_CrcUnitIsIndependent :
    (∃ t, handleEvent .txPull (sending 7) = .next t) ∧ (∃ t, handleEvent (.rxByte 0x04) (receiving [0x01, 0x03] 0) = .next t) ∧
      (∃ t, handleEvent .connectOk (dialling true) = .next t) ∧ (∃ t, handleEvent .connectFail (dialling true) = .next t) ∧
      (∃ t, handleEvent .linkDown linked = .next t) ∧ ∃ t, handleEvent .tick (sending 0) = .next t :=
  ⟨⟨_, rfl⟩, ⟨_, rfl⟩, ⟨_, rfl⟩, ⟨_, rfl⟩, ⟨_, rfl⟩, ⟨_, rfl⟩⟩

/-- The three cases of ENCODE and, with the two links, of START. -/
theorem witness_EncodeCommandResult :
    (sending 0).phase ≠ .idle ∧ s0.slaveSet = false ∧
      ((withLength 253).phase = .idle ∧ (withLength 253).slaveSet = true ∧ (withLength 253).txlen.toNat > 252) ∧
      (withLength 252).phase = .idle ∧ (withLength 252).slaveSet = true ∧ (withLength 252).txlen.toNat ≤ 252 := by decide

theorem witness_RequestFrameLayout : (withLength 0).txlen.toNat ≤ 252 ∧ (withLength 252).txlen.toNat ≤ 252 := by decide

theorem witness_EncodedFramePassesItsCheck :
    (withLength 252).phase = .idle ∧ (withLength 252).slaveSet = true ∧ (withLength 252).txlen.toNat ≤ 252 := by decide

/-- One frame for each verdict, at the boundary lengths. -/
theorem witness_VerifyChecksInOrder :
    ((holding []).verify 3).err = .frameTooShort ∧ ((holding []).verify 257).err = .lengthError ∧
      ((holding [0x01, 0x03, 0x40, 0x21]).verify 4).err = .ok ∧
      ((holding [0x01, 0x03, 0x00, 0x20]).verify 4).err = .crcMismatch ∧
      ((holding [0x02, 0x83, 0x02, 0x30, 0xF1]).verify 5).err = .addressMismatch ∧
      ((holding [0x01, 0x83, 0x41, 0x81]).verify 4).err = .lengthError ∧
      ((holding [0x01, 0x83, 0x02, 0xC0, 0xF1]).verify 5).err = .exceptionResponse ∧
      ((holding [0x01, 0x84, 0x02, 0xC2, 0xC1]).verify 5).fcMismatch = true := by decide +kernel

/-- Two blocks that differ, but not in the four bytes of the frame. -/
theorem witness_VerifyChecksInOrder_same_frame :
    (holding [0x01, 0x03, 0x40, 0x21, 0xFF]).slave = (holding [0x01, 0x03, 0x40, 0x21]).slave ∧
      (holding [0x01, 0x03, 0x40, 0x21, 0xFF]).txfc = (holding [0x01, 0x03, 0x40, 0x21]).txfc ∧
      ∀ k < 4, (holding [0x01, 0x03, 0x40, 0x21, 0xFF]).rxAt k = (holding [0x01, 0x03, 0x40, 0x21]).rxAt k := by decide

theorem witness_DecodeCommandResult :
    (sending 0).phase ≠ .idle ∧ s0.slaveSet = false ∧ linked.phase = .idle ∧ linked.slaveSet = true := by decide

theorem witness_EncodeThenDecodeIsIdentity :
    s0.phase = .idle ∧ (List.replicate 252 (0x00 : Byte)).length ≤ 252 ∧ (0x7F : Byte).toNat < 0x80 ∧ 0x80 ≤ (0x80 : Byte).toNat := by
  decide +kernel

/-- The lengths 5, 8, 4 and 256. -/
theorem witness_DispatchedLengthFitsRxbuf :
    (receiving [0x01, 0x83] 0).dispatch = .expect 5 false ∧
      ({ receiving [0x01, 0x06] 0 with txfc := 0x06 } : State).dispatch = .expect 8 false ∧
      ({ receiving [0x01, 0x2B] 0 with txfc := 0x2B } : State).dispatch = .expect 4 true ∧
      (receiving [0x01, 0x03, 0xFB] 0).dispatch = .expect 256 false := by decide +kernel

/-- An exception, and each class of request. -/
theorem witness_SecondByteDecidesLength :
    ((receiving [0x01] 0).phase = .rx ∧ (receiving [0x01] 0).rxlen = 1 ∧ (receiving [0x01] 0).rxexp = 0) ∧
      0x83 = (receiving [0x01] 0).txfc ||| 0x80 ∧ 0x03 ≠ (receiving [0x01] 0).txfc ||| 0x80 ∧
      (receiving [0x01] 0).txClass = .read ∧ ({ receiving [0x01] 0 with txfc := 0x06 } : State).txClass = .writeSingle ∧
      ({ receiving [0x01] 0 with txfc := 0x10 } : State).txClass = .writeMultiple ∧
      ({ receiving [0x01] 0 with txfc := 0x2B } : State).txClass = .other := by decide

theorem witness_ByteCountDecidesLength :
    (receiving [0x01, 0x03] 0).phase = .rx ∧ (receiving [0x01, 0x03] 0).rxlen = 2 ∧ (receiving [0x01, 0x03] 0).rxexp = 0 ∧
      (0xFB : Byte).toNat ≤ 251 ∧ (0xFC : Byte).toNat > 251 := by decide

theorem witness_EngineCommandsRefused :
    ((dialling false).phase ≠ .idle ∧ s0.slaveSet = false) ∧ linked.phase = .idle ∧ linked.slaveSet = true := by decide

theorem witness_StartCommandResult :
    (sending 0).phase ≠ .idle ∧ s0.slaveSet = false ∧
      ((withLength 253).phase = .idle ∧ (withLength 253).slaveSet = true ∧ (withLength 253).txlen.toNat > 252) ∧
      (unlinked.phase = .idle ∧ unlinked.slaveSet = true ∧ unlinked.txlen.toNat ≤ 252 ∧ unlinked.link = false) ∧
      (withLength 252).phase = .idle ∧ (withLength 252).slaveSet = true ∧ (withLength 252).txlen.toNat ≤ 252 ∧
      (withLength 252).link = true := by decide

theorem witness_ConnectCommandResult :
    (dialling false).phase ≠ .idle ∧ (linked.phase = .idle ∧ linked.link = true) ∧ s0.phase = .idle ∧ s0.link = false := by decide

theorem witness_CloseCommandResult : (sending 3).phase ≠ .idle ∧ linked.phase = .idle := by decide

/-- Every command has a next state, so the frame speaks of each. -/
theorem witness_CommandsFrame :
    (∃ t, exec .nop linked = .next t) ∧ (∃ t, exec .crcInit linked = .next t) ∧ (∃ t, exec (.crcByte 0x01) linked = .next t) ∧
      (∃ t, exec (.crcVerify 0x0BC4) linked = .next t) ∧ (∃ t, exec .encode linked = .next t) ∧
      (∃ t, exec .decode linked = .next t) ∧ (∃ t, exec .start linked = .next t) ∧ (∃ t, exec .connect linked = .next t) ∧
      ∃ t, exec .close linked = .next t :=
  ⟨⟨_, rfl⟩, ⟨_, rfl⟩, ⟨_, rfl⟩, ⟨_, rfl⟩, ⟨_, rfl⟩, ⟨_, rfl⟩, ⟨_, rfl⟩, ⟨_, rfl⟩, ⟨_, rfl⟩⟩

theorem witness_TxPullHandsOverNextByte :
    ((sending 6).phase = .tx ∧ (sending 6).txlen.toNat ≤ 252 ∧ (sending 6).txpos.toNat < (sending 6).txlen.toNat + 3) ∧
      ((sending 7).phase = .tx ∧ (sending 7).txlen.toNat ≤ 252 ∧ (sending 7).txpos.toNat = (sending 7).txlen.toNat + 3) ∧
      linked.phase ≠ .tx := by decide

theorem witness_WholeRequestSentInOrder :
    (sending 0).phase = .tx ∧ (sending 0).txpos = 0 ∧ (sending 0).txlen.toNat ≤ 252 := by decide

/-- The invariant of a sending block, split as State.Inv is. -/
theorem sending_inv : (sending 0).Inv := ⟨by decide, by decide +kernel, by decide, by decide⟩

/-- The invariant of a block one byte before the end of a reply. -/
theorem receiving_inv : (receiving replyHead 9).Inv := ⟨by decide +kernel, by decide +kernel, by decide, by decide⟩

theorem witness_RxByteStoresOneByte : (receiving replyHead 9).Inv ∧ (receiving replyHead 9).phase = .rx :=
  ⟨receiving_inv, by decide⟩

/-- The last byte of a reply, a byte in its middle, and its very first. -/
theorem witness_SizedReplyCompletesAtItsLength :
    ((receiving replyHead 9).Inv ∧ (receiving replyHead 9).phase = .rx ∧ (receiving replyHead 9).rxexp ≠ 0 ∧
        (receiving replyHead 9).rxlen.toNat + 1 = (receiving replyHead 9).rxexp.toNat) ∧
      ((receiving [0x01, 0x03, 0x04] 9).Inv ∧ (receiving [0x01, 0x03, 0x04] 9).phase = .rx ∧
        (receiving [0x01, 0x03, 0x04] 9).rxexp ≠ 0 ∧
        (receiving [0x01, 0x03, 0x04] 9).rxlen.toNat + 1 < (receiving [0x01, 0x03, 0x04] 9).rxexp.toNat) ∧
      (receiving [] 0).Inv ∧ (receiving [] 0).phase = .rx ∧ (receiving [] 0).rxlen = 0 :=
  ⟨⟨receiving_inv, by decide, by decide, by decide⟩,
    ⟨⟨by decide +kernel, by decide +kernel, by decide, by decide⟩, by decide, by decide, by decide⟩,
    ⟨by decide +kernel, by decide +kernel, by decide, by decide⟩, by decide, by decide⟩

theorem witness_ReadReplyReassembled :
    (receiving [] 0).phase = .rx ∧ (receiving [] 0).rxlen = 0 ∧ (receiving [] 0).rxexp = 0 ∧ (receiving [] 0).txClass = .read ∧
      0x03 ≠ (receiving [] 0).txfc ||| 0x80 ∧ (List.replicate 251 (0x00 : Byte)).length ≤ 251 ∧ (receiving [] 0).excCode = 0 := by
  decide +kernel

theorem witness_ExceptionReplyReported :
    (receiving [] 0).phase = .rx ∧ (receiving [] 0).rxlen = 0 ∧ (receiving [] 0).rxexp = 0 := by decide

theorem witness_StrayByteOnlySetsExcess : linked.phase ≠ .rx ∧ (sending 4).phase ≠ .rx := by decide

theorem witness_EventsWithNoEffect :
    linked.phase ≠ .tx ∧ linked.phase ≠ .connecting ∧ linked.phase = .idle ∧ linked.phase ≠ .rx ∧
      ({ sending 0 with deadline := 0 } : State).deadline = 0 := by decide

theorem witness_LinkEventResults :
    ((dialling true).phase = .connecting ∧ (dialling true).pendingStart = true) ∧
      ((dialling false).phase = .connecting ∧ (dialling false).pendingStart = false) ∧ (sending 0).phase ≠ .connecting ∧
      linked.phase = .idle ∧ (sending 0).phase ≠ .idle ∧ (receiving [] 0).phase ≠ .idle := by decide

theorem witness_DeadlineExpiresOnLastTick :
    ((dialling true).phase ≠ .idle ∧ (dialling true).deadline ≠ 0 ∧ 99 < (dialling true).deadline.toNat) ∧
      ((receiving [] 0).phase ≠ .idle ∧ (receiving [] 0).deadline ≠ 0) ∧ linked.phase = .idle ∧
      ({ sending 0 with deadline := 0 } : State).deadline = 0 := by decide

theorem witness_TransportErrorsInvalidateLink :
    (ErrCode.lengthError = .lengthError ∧ (receiving [0x01, 0x03] 0).phase = .rx) ∧
      ErrCode.lengthError = .lengthError ∧ (holding []).phase ≠ .rx := by decide

/-- A step that sets DONE with an error. -/
theorem witness_ResultsOnlyByCompletion :
    ∃ t, step { sending 3 with inputs := [.linkDown] } = .next t ∧ t.done = true ∧ t.err ≠ .ok :=
  ⟨_, rfl, by decide, by decide⟩

/-- Each clause at the first and last address of its range. -/
theorem witness_ProtectedWritesRefusedWhileBusy :
    (sending 0).phase ≠ .idle ∧ 0x00F#12 &&& 0xFFC#12 = 0x00C ∧ 0x014#12 &&& 0xFFC#12 = 0x014 ∧ 0x018#12 &&& 0xFFC#12 = 0x018 ∧
      0x020#12 &&& 0xFFC#12 = 0x020 ∧ (0x400 ≤ (0x400#12).toNat ∧ (0xBFF#12).toNat < 0xC00) ∧ 0x003#12 &&& 0xFFC#12 = 0x000 ∧
      0x004#12 &&& 0xFFC#12 = 0x004 ∧ 0x008#12 &&& 0xFFC#12 = 0x008 ∧ 0x013#12 &&& 0xFFC#12 = 0x010 ∧
      0x02C#12 &&& 0xFFC#12 = 0x02C := by decide

theorem witness_UnmappedWordsAreInert :
    (0x038 ≤ (0x038#12).toNat ∧ (0x038#12).toNat < 0x400) ∧ (0x038 ≤ (0x3FF#12).toNat ∧ (0x3FF#12).toNat < 0x400) ∧
      0xC00 ≤ (0xC00#12).toNat ∧ 0xC00 ≤ (0xFFF#12).toNat := by decide

theorem witness_RegisterWritesReadBack :
    linked.phase = .idle ∧ (Reg.rxlen, (0x1FF : Word)) ∈ [(Reg.irqEn, (0x3 : Word)), (.slave, 0xFF), (.timeout, 0xFFFFFFFF),
        (.txfc, 0xFF), (.txlen, 0xFFFF), (.rxlen, 0x1FF), (.crcAcc, 0xFFFF)] ∧
      Reg.rxexp ∈ [Reg.txcrc, .rxexp, .rxcrc, .engine, .deadline] ∧ busTarget 0x014 ≠ .reg .slave ∧
      busTarget 0x014 ≠ .reg .engine := by decide

theorem witness_BufferWordFormat :
    0 < 256 ∧ 255 < 256 ∧ linked.phase = .idle ∧ 0x800#12 &&& 0xFFC#12 ≠ BitVec.ofNat 12 (0x400 + 4 * 255) := by decide

theorem witness_StepKeepsInvariant :
    (sending 0).Inv ∧ (receiving replyHead 9).Inv ∧ s0.Inv :=
  ⟨sending_inv, receiving_inv, by decide, by decide +kernel, by decide, by decide⟩

/-- A step out of each phase. -/
theorem witness_PhaseMovesAreListed :
    (∃ t, step { unlinked with inputs := [.hostWrite 0x000 0x12] } = .next t ∧ t.phase ≠ .idle) ∧
      (∃ t, step { dialling true with inputs := [.connectOk] } = .next t ∧ t.phase ≠ .connecting) ∧
      (∃ t, step { sending 7 with inputs := [.txPull] } = .next t ∧ t.phase ≠ .tx) ∧
      ∃ t, step { receiving [0x01, 0x03] 0 with inputs := [.rxByte 0xFC] } = .next t ∧ t.phase ≠ .rx :=
  ⟨⟨_, rfl, by decide⟩, ⟨_, rfl, by decide⟩, ⟨_, rfl, by decide⟩, _, rfl, by decide⟩

theorem witness_ExchangeLocksRequest :
    ({ receiving [] 0 with inputs := [.rxByte 0x01] } : State).inputs = .rxByte 0x01 :: [] ∧ Event.rxByte 0x01 ≠ .reset ∧
      ({ receiving [] 0 with inputs := [.rxByte 0x01] } : State).phase ≠ .idle ∧
      ∃ t, step { receiving [] 0 with inputs := [.rxByte 0x01] } = .next t :=
  ⟨rfl, by decide, by decide, _, rfl⟩

/-- A TxByte, a Dial and a Hangup. -/
theorem witness_OutputsOnlyWhereAllowed :
    (∃ t, step { sending 0 with inputs := [.txPull] } = .next t ∧ t.outputs = [] ++ [.txByte 0x01]) ∧
      (∃ t, step { s0 with inputs := [.hostWrite 0x000 0x20] } = .next t ∧ t.outputs = [] ++ [.dial]) ∧
      ∃ t, step { sending 3 with inputs := [.linkDown] } = .next t ∧ t.outputs = [] ++ [.hangup] :=
  ⟨⟨_, rfl, by decide⟩, ⟨_, rfl, by decide⟩, _, rfl, by decide⟩

/-- A link that goes up, and one that goes down by a CLOSE, a LinkDown, a Reset and a transport-class error. -/
theorem witness_OnlyListedRulesChangeLink :
    (∃ t, step { dialling true with inputs := [.connectOk] } = .next t ∧ (dialling true).link = false ∧ t.link = true) ∧
      (∃ t, step { linked with inputs := [.hostWrite 0x000 0x21] } = .next t ∧ linked.link = true ∧ t.link = false) ∧
      (Event.hostWrite 0x000 0x21).commands .close ∧
      (∃ t, step { linked with inputs := [.linkDown] } = .next t) ∧ (∃ t, step { linked with inputs := [.reset] } = .next t) ∧
      ∃ t, step { receiving [0x01, 0x03] 0 with inputs := [.rxByte 0xFC] } = .next t ∧ t.phase = .idle ∧ t.err = .lengthError :=
  ⟨⟨_, rfl, by decide, by decide⟩, ⟨_, rfl, by decide, by decide⟩, ⟨_, _, rfl, by decide, rfl⟩, ⟨_, rfl⟩, ⟨_, rfl⟩, _, rfl,
    by decide, by decide⟩

theorem witness_ParametersAreFixed : ∃ t, step { linked with inputs := [.reset] } = .next t := ⟨_, rfl⟩

theorem witness_LastByteBeatsLastTick :
    (receiving replyHead 9).Inv ∧ (receiving replyHead 9).phase = .rx ∧ (receiving replyHead 9).rxexp ≠ 0 ∧
      (receiving replyHead 9).rxlen.toNat + 1 = (receiving replyHead 9).rxexp.toNat ∧ (receiving replyHead 9).deadline = 1 :=
  ⟨receiving_inv, by decide, by decide, by decide, by decide⟩

end Sys2Proof.Tests
end

section
/-! PROOFS. What one step leaves of the environment's three fields (parameters, inputs, outputs), for every event at once:
`handleEvent_effect`. The obligations of 00_scope.md R8, R13 and R14 follow from it. -/

namespace Sys2Proof.Machine

/-! ### The effect of an event on parameters, inputs and outputs -/

/-- `t` has the environment's fields of `s`: an update that emits nothing. -/
structure KeepsEnvironment (s t : State) : Prop where
  params : t.params = s.params
  inputs : t.inputs = s.inputs
  outputs : t.outputs = s.outputs

/-- The outputs one step from `s` to `t` may emit: none, or one where its rule emits it (00_scope.md R14). -/
inductive Emission (s t : State) : List Output → Prop where
  | silent : Emission s t []
  | readData (v : Word) : Emission s t [.readData v]
  | txByte (hp : s.phase = .tx) : Emission s t [.txByte (s.txByte s.txpos.toNat)]
  | dial (hp : s.phase = .idle) (hl : s.link = false) (ht : t.phase = .connecting) : Emission s t [.dial]
  | hangup (hl : t.link = false) (hp : t.phase = .idle) : Emission s t [.hangup]

/-- What every event does with the environment's fields: it keeps the first two, and its outputs are an emission. -/
structure EventEffect (s t : State) : Prop where
  params : t.params = s.params
  inputs : t.inputs = s.inputs
  emits : ∃ o, Emission s t o ∧ t.outputs = s.outputs ++ o

theorem KeepsEnvironment.refl (s : State) : KeepsEnvironment s s := ⟨rfl, rfl, rfl⟩

theorem KeepsEnvironment.effect {s t : State} (h : KeepsEnvironment s t) : EventEffect s t :=
  ⟨h.params, h.inputs, [], .silent, by simp [h.outputs]⟩

/-- Completing emits one Hangup with the link down after it, or nothing (60_exceptions.md R221, R226). -/
theorem KeepsEnvironment.complete_effect {s u : State} {e : ErrCode} (h : KeepsEnvironment s u) :
    EventEffect s (u.complete e) := by
  refine ⟨h.params, h.inputs, ?_⟩
  cases hi : e.invalidates u.phase with
  | true => exact ⟨[.hangup], .hangup (by simp [State.complete, hi]) rfl, by simp [hi, h.outputs]⟩
  | false => exact ⟨[], .silent, by simp [hi, h.outputs]⟩

/-- Dialling emits one Dial (43_transport.md R173, R174). -/
theorem KeepsEnvironment.dial_effect {s u : State} {pending : Bool} (h : KeepsEnvironment s u) (hp : s.phase = .idle)
    (hl : s.link = false) : EventEffect s (u.dial pending) :=
  ⟨h.params, h.inputs, [.dial], .dial hp hl rfl, by simp [h.outputs]⟩

theorem KeepsEnvironment.completeVerify_effect {s u : State} {l : Nat} (h : KeepsEnvironment s u) :
    EventEffect s (u.completeVerify l) :=
  KeepsEnvironment.complete_effect ⟨h.params, h.inputs, h.outputs⟩

theorem KeepsEnvironment.finishRx_effect {s u : State} (h : KeepsEnvironment s u) : EventEffect s u.finishRx := by
  obtain ⟨-, -, hf⟩ | ⟨-, hf⟩ := u.finishRx_cases
  · rw [hf]; exact h.completeVerify_effect
  · rw [hf]; exact h.effect

/-! ### The commands -/

/-- An engine command is refused, which emits nothing, or runs from IDLE (43_transport.md R172). -/
theorem engineCommand_effect {s r t : State} {needsSlave : Bool}
    (h : (if s.refuses needsSlave then .next s.markReject else .next r : Host.Outcome State Fault Refusal) = .next t)
    (hr : s.phase = .idle → EventEffect s r) : EventEffect s t := by
  split_ifs at h with hn
  · cases h; exact KeepsEnvironment.effect ⟨rfl, rfl, rfl⟩
  · cases h; exact hr (State.idle_of_not_refuses (by simpa using hn)).1

theorem State.runEncode_effect (s : State) : EventEffect s s.accept.runEncode := by
  unfold State.runEncode
  split_ifs <;> exact KeepsEnvironment.complete_effect ⟨rfl, rfl, rfl⟩

theorem State.runStart_effect {s : State} (hp : s.phase = .idle) : EventEffect s s.accept.runStart := by
  unfold State.runStart State.beginExchange
  split_ifs with hlong hl
  · exact KeepsEnvironment.complete_effect ⟨rfl, rfl, rfl⟩
  · exact KeepsEnvironment.effect ⟨rfl, rfl, rfl⟩
  · exact KeepsEnvironment.dial_effect ⟨rfl, rfl, rfl⟩ hp (by simpa using hl)

theorem State.runConnect_effect {s : State} (hp : s.phase = .idle) : EventEffect s s.accept.runConnect := by
  unfold State.runConnect
  split_ifs with hl
  · exact KeepsEnvironment.complete_effect ⟨rfl, rfl, rfl⟩
  · exact KeepsEnvironment.dial_effect ⟨rfl, rfl, rfl⟩ hp (by simpa using hl)

/-- CLOSE emits its own Hangup: completing with OK adds none. -/
theorem State.runClose_effect (s : State) : EventEffect s s.accept.runClose := by
  unfold State.runClose
  split_ifs
  · exact ⟨rfl, rfl, [.hangup], .hangup rfl rfl, rfl⟩
  · exact KeepsEnvironment.complete_effect ⟨rfl, rfl, rfl⟩

theorem exec_effect {i : Instr} {s t : State} (h : exec i s = .next t) : EventEffect s t := by
  cases i with
  | nop | crcInit | crcByte | crcVerify => cases h; exact KeepsEnvironment.effect ⟨rfl, rfl, rfl⟩
  | encode => exact engineCommand_effect h fun _ => s.runEncode_effect
  | decode =>
    exact engineCommand_effect h fun _ => KeepsEnvironment.completeVerify_effect ⟨rfl, rfl, rfl⟩
  | start => exact engineCommand_effect h State.runStart_effect
  | connect => exact engineCommand_effect h State.runConnect_effect
  | close => exact engineCommand_effect h fun _ => s.runClose_effect

/-! ### The host bus -/

theorem onStore_keepsEnvironment (tgt : BusTarget) (v : Word) (s : State) : KeepsEnvironment s (onStore tgt v s) := by
  unfold onStore
  split_ifs
  · exact ⟨rfl, rfl, rfl⟩
  · cases tgt with
    | reg r => cases r <;> exact ⟨rfl, rfl, rfl⟩
    | txbuf | rxbuf | unmapped => exact ⟨rfl, rfl, rfl⟩

theorem onHostWrite_effect {a : HostAddr} {v : Word} {s t : State} (h : onHostWrite a v s = .next t) : EventEffect s t := by
  obtain ⟨-, hw⟩ | ⟨-, hw⟩ := onHostWrite_cases a v s <;> rw [hw] at h
  · obtain ⟨i, -, hx⟩ | ⟨-, hx⟩ := writeCmd_next v s <;> rw [hx] at h
    · exact exec_effect h
    · cases h; exact KeepsEnvironment.effect ⟨rfl, rfl, rfl⟩
  · cases h; exact (onStore_keepsEnvironment _ v s).effect

/-! ### The streams, the link and the clock -/

theorem onTxPull_effect {s t : State} (h : onTxPull s = .next t) : EventEffect s t := by
  obtain ⟨-, rfl⟩ | ⟨hp, -, rfl⟩ := onTxPull_next h
  · exact (KeepsEnvironment.refl t).effect
  · unfold State.advanceTx
    split_ifs <;> exact ⟨rfl, rfl, _, .txByte hp, rfl⟩

theorem onRxByte_effect {b : Byte} {s t : State} (h : onRxByte b s = .next t) : EventEffect s t := by
  obtain ⟨-, rfl⟩ | ⟨-, -, hr⟩ := onRxByte_next h
  · exact KeepsEnvironment.effect ⟨rfl, rfl, rfl⟩
  · have hstore : KeepsEnvironment s (s.storeRx b) := ⟨rfl, rfl, rfl⟩
    obtain ⟨-, rfl⟩ | ⟨-, ⟨-, rfl⟩ | ⟨n, fb, -, rfl⟩ | ⟨-, rfl⟩⟩ := State.reassemble_next hr
    · exact hstore.finishRx_effect
    · exact hstore.finishRx_effect
    · exact KeepsEnvironment.finishRx_effect ⟨rfl, rfl, rfl⟩
    · exact hstore.complete_effect

theorem onConnectOk_effect (s : State) : EventEffect s (onConnectOk s) := by
  unfold onConnectOk
  split_ifs
  · exact (KeepsEnvironment.refl s).effect
  · exact KeepsEnvironment.effect ⟨rfl, rfl, rfl⟩
  · exact KeepsEnvironment.complete_effect ⟨rfl, rfl, rfl⟩

theorem onConnectFail_effect (s : State) : EventEffect s (onConnectFail s) := by
  unfold onConnectFail
  split_ifs
  · exact (KeepsEnvironment.refl s).complete_effect
  · exact (KeepsEnvironment.refl s).effect

theorem onLinkDown_effect (s : State) : EventEffect s (onLinkDown s) := by
  unfold onLinkDown
  cases s.phase with
  | connecting | tx | rx => exact (KeepsEnvironment.refl s).complete_effect
  | idle => exact KeepsEnvironment.effect ⟨rfl, rfl, rfl⟩

theorem KeepsEnvironment.expire_effect {s u : State} (h : KeepsEnvironment s u) : EventEffect s u.expire := by
  unfold State.expire
  cases u.phase with
  | connecting | tx | rx => exact h.complete_effect
  | idle => exact h.effect

theorem onTick_effect (s : State) : EventEffect s (onTick s) := by
  have hcount : KeepsEnvironment s s.countDown := ⟨rfl, rfl, rfl⟩
  obtain ⟨-, ht⟩ | ⟨-, -, -, ht⟩ | ⟨-, -, -, ht⟩ := onTick_cases s <;> rw [ht]
  · exact (KeepsEnvironment.refl s).effect
  · exact hcount.expire_effect
  · exact hcount.effect

/-! ### Every event, and every step -/

/-- Whatever the event, parameters and inputs stay as they are and the outputs grow by one emission. -/
theorem handleEvent_effect {e : Event} {s t : State} (h : handleEvent e s = .next t) : EventEffect s t := by
  cases e with
  | reset => cases h; exact ⟨rfl, rfl, [.hangup], .hangup rfl rfl, rfl⟩
  | hostRead a => cases h; exact ⟨rfl, rfl, _, .readData (s.busRead a), rfl⟩
  | hostWrite a v => exact onHostWrite_effect h
  | txPull => exact onTxPull_effect h
  | rxByte b => exact onRxByte_effect h
  | connectOk => cases h; exact onConnectOk_effect s
  | connectFail => cases h; exact onConnectFail_effect s
  | linkDown => cases h; exact onLinkDown_effect s
  | tick => cases h; exact onTick_effect s

/-- No rule for an emission reads the inputs to come. -/
theorem Emission.of_inputs {s t : State} {rest : List Event} {o : List Output}
    (h : Emission { s with inputs := rest } t o) : Emission s t o := by
  cases h with
  | silent => exact .silent
  | readData v => exact .readData v
  | txByte hp => exact .txByte (s := s) hp
  | dial hp hl ht => exact .dial hp hl ht
  | hangup hl hp => exact .hangup hl hp

/-- A step with an input to come consumes it, and its effect is that event's. -/
theorem step_cons_effect {s t : State} {e : Event} {rest : List Event} (hs : s.inputs = e :: rest) (h : step s = .next t) :
    handleEvent e { s with inputs := rest } = .next t ∧ EventEffect { s with inputs := rest } t := by
  rw [step_cons hs] at h
  exact ⟨h, handleEvent_effect h⟩

/-- Every step, with an input or without, keeps the parameters and emits what one emission allows. -/
theorem step_emission {s t : State} (h : step s = .next t) :
    t.params = s.params ∧ ∃ o, Emission s t o ∧ t.outputs = s.outputs ++ o := by
  cases hs : s.inputs with
  | nil =>
    rw [step_nil hs] at h
    cases h
    exact ⟨rfl, [], .silent, by simp⟩
  | cons e rest =>
    obtain ⟨-, hp, -, o, ho, hout⟩ := step_cons_effect hs h
    exact ⟨hp, o, ho.of_inputs, hout⟩

/-- An emission meets every condition that the spec puts on its outputs. -/
theorem Emission.allowed {s t : State} {o : List Output} (h : Emission s t o) :
    o.length ≤ 1 ∧
      (∀ b, Output.txByte b ∈ o → s.phase = .tx ∧ b = s.txByte s.txpos.toNat) ∧
      (Output.dial ∈ o → s.phase = .idle ∧ s.link = false ∧ t.phase = .connecting) ∧
      (Output.hangup ∈ o → t.link = false ∧ t.phase = .idle) := by
  cases h with
  | silent => simp
  | readData v => simp
  | txByte hp => simp [hp]
  | dial hp hl ht => simp [hp, hl, ht]
  | hangup hl hp => simp [hl, hp]

/-! ### The obligations -/

/-- Settles O8: with an input to come a step is that event's effect, and no event touches the inputs or takes an output
back. -/
theorem stepConsumesOneEvent : Obligations.StepConsumesOneEvent := by
  intro s t h
  refine ⟨fun hs => ?_, fun e rest hs => ?_, ?_⟩
  · rw [step_nil hs] at h
    cases h
    rfl
  · obtain ⟨he, heff⟩ := step_cons_effect hs h
    exact ⟨heff.inputs, he⟩
  · obtain ⟨-, o, -, hout⟩ := step_emission h
    exact ⟨o, hout⟩

/-- Settles O56: the outputs a step adds are an emission. -/
theorem outputsOnlyWhereAllowed : Obligations.OutputsOnlyWhereAllowed := by
  intro s t o h ho
  obtain ⟨-, o', hem, hout⟩ := step_emission h
  obtain rfl : o = o' := List.append_cancel_left (ho.symm.trans hout)
  exact hem.allowed

/-- Settles O58: no event's effect touches the parameters. -/
theorem parametersAreFixed : Obligations.ParametersAreFixed :=
  fun _ _ h => (step_emission h).1

end Sys2Proof.Machine
end

section
/-! PROOFS. The invariant of Safety.lean read phase by phase (`State.inv_iff_of_idle` and its siblings), and the effect of
every event keeping it: `handleEvent_keeps_inv` (10_state.md R45, 70_reset_and_hazards.md R254). -/

namespace Sys2Proof.Machine

/-! ### What the invariant says in each phase -/

/-- What the invariant asks of an idle block. -/
structure State.IdleInv (s : State) : Prop where
  pending : s.pendingStart = false
  deadline : s.deadline = 0
  excCode : s.ExcCodeOnlyForException
  mismatch : s.MismatchOnlyWhenOk
  buffers : s.BuffersCanonical

/-- What the invariant asks of every busy block: no result yet, and canonical buffers. -/
structure State.BusyInv (s : State) : Prop where
  done : s.done = false
  err : s.err = .ok
  excCode : s.excCode = 0
  fcMismatch : s.fcMismatch = false
  buffers : s.BuffersCanonical

/-- What the invariant asks of the request that a START has accepted. -/
structure State.RequestInv (s : State) : Prop where
  slaveSet : s.slaveSet = true
  fits : s.txlen.toNat ≤ Config.maxData
  txcrc : s.txcrc = crc16 s.txBody

/-- Nothing of an exchange has happened yet: no byte sent, none received, no length (43_transport.md R173). -/
structure State.Fresh (s : State) : Prop where
  txpos : s.txpos = 0
  rxlen : s.rxlen = 0
  rxexp : s.rxexp = 0

/-- What the invariant asks of a block that dials. -/
structure State.ConnectingInv (s : State) : Prop extends s.BusyInv where
  link : s.link = false
  fallback : s.fallback = false
  request : s.pendingStart = true → s.RequestInv
  fresh : s.pendingStart = true → s.Fresh

/-- What the invariant asks of a block that sends. -/
structure State.TxInv (s : State) : Prop extends s.BusyInv, s.RequestInv where
  pending : s.pendingStart = false
  link : s.link = true
  fallback : s.fallback = false
  rxlen : s.rxlen = 0
  rxexp : s.rxexp = 0
  txpos : s.txpos.toNat < s.txlen.toNat + 4

/-- What the invariant asks of a block that receives. -/
structure State.RxInv (s : State) : Prop extends s.BusyInv, s.RequestInv where
  pending : s.pendingStart = false
  link : s.link = true
  txpos : s.txpos.toNat = s.txlen.toNat + 3
  rxlen : s.rxlen.toNat < Config.maxAdu
  unsized : s.rxexp = 0 → s.rxlen.toNat ≤ 2
  sized : s.rxexp ≠ 0 → Config.minAdu ≤ s.rxexp.toNat ∧ s.rxexp.toNat ≤ Config.maxAdu ∧ s.rxlen.toNat < s.rxexp.toNat
  sizedLate : s.rxexp ≠ 0 → 2 ≤ s.rxlen.toNat
  exception : 2 ≤ s.rxlen.toNat → s.rxAt 1 = exceptionCodeOf s.txfc → s.rxexp = 5

theorem State.not_pending_of_ne_connecting {s : State} (h : s.PendingMeansConnecting) (hp : s.phase ≠ .connecting) :
    s.pendingStart = false :=
  Bool.eq_false_iff.mpr fun hpend => hp (h hpend)

theorem State.inv_iff_of_idle {s : State} (hp : s.phase = .idle) : s.Inv ↔ s.IdleInv := by
  constructor
  · rintro ⟨⟨hquiet, -⟩, -, ⟨-, -, hexc, hmis⟩, hbuf⟩
    exact ⟨(hquiet hp).1, (hquiet hp).2, hexc, hmis, hbuf⟩
  · rintro ⟨hpend, hdl, hexc, hmis, hbuf⟩
    exact ⟨⟨fun _ => ⟨hpend, hdl⟩, by simp [hpend], by simp [hp], by simp [hp], by simp [hp], by simp [hp]⟩,
      ⟨by simp [hp, hpend], by simp [hpend], by simp [hp], by simp [hp], by simp [hp], by simp [hp], by simp [hp, hpend],
        by simp [hp]⟩,
      ⟨by simp [hp], by simp [hp], hexc, hmis⟩, hbuf⟩

theorem State.inv_iff_of_connecting {s : State} (hp : s.phase = .connecting) : s.Inv ↔ s.ConnectingInv := by
  have hbusy : s.phase ≠ .idle := by simp [hp]
  constructor
  · rintro ⟨⟨-, -, -, -, -, hslave⟩, ⟨hfresh, hpos, -, -, -, -, hcrc, hlink⟩, ⟨hres, hfb, -, -⟩, hbuf⟩
    obtain ⟨hdone, herr, hexc, hmis⟩ := hres hbusy
    refine ⟨⟨hdone, herr, hexc, hmis, hbuf⟩, hlink hp, hfb (.inl hp), fun hpend => ?_, fun hpend => ?_⟩
    · obtain ⟨-, -, hfits⟩ := hfresh (.inr hpend)
      exact ⟨by simpa [hpend] using hslave hbusy, hfits, hcrc (.inl (.inr hpend))⟩
    · obtain ⟨hrxlen, hrxexp, -⟩ := hfresh (.inr hpend)
      exact ⟨hpos hpend, hrxlen, hrxexp⟩
  · rintro ⟨⟨hdone, herr, hexc, hmis, hbuf⟩, hlink, hfb, hreq, hfresh⟩
    have hsend (h : s.Sending) : s.pendingStart = true := h.resolve_left (by simp [hp])
    have hslave : s.slaveSet = true ∨ s.pendingStart = false := by
      cases hpend : s.pendingStart with
      | true => exact .inl (hreq hpend).slaveSet
      | false => exact .inr rfl
    exact ⟨⟨by simp [hp], fun _ => hp, by simp [hp], by simp [hp], by simp [hp], fun _ => hslave.imp_right (⟨hp, ·⟩)⟩,
      ⟨fun h => ⟨(hfresh (hsend h)).rxlen, (hfresh (hsend h)).rxexp, (hreq (hsend h)).fits⟩, fun h => (hfresh h).txpos,
        by simp [hp], by simp [hp], by simp [hp], by simp [hp],
        fun h => (hreq (hsend (h.resolve_right (by simp [hp])))).txcrc, fun _ => hlink⟩,
      ⟨fun _ => ⟨hdone, herr, hexc, hmis⟩, fun _ => hfb, fun _ => hexc, by simp [hmis]⟩, hbuf⟩

theorem State.inv_iff_of_tx {s : State} (hp : s.phase = .tx) : s.Inv ↔ s.TxInv := by
  have hbusy : s.phase ≠ .idle := by simp [hp]
  constructor
  · rintro ⟨⟨-, hpend, hlink, htx, -, hslave⟩, ⟨hfresh, -, -, -, -, -, hcrc, -⟩, ⟨hres, hfb, -, -⟩, hbuf⟩
    obtain ⟨hdone, herr, hexc, hmis⟩ := hres hbusy
    obtain ⟨hrxlen, hrxexp, hfits⟩ := hfresh (.inl hp)
    exact ⟨⟨hdone, herr, hexc, hmis, hbuf⟩, ⟨by simpa [hp] using hslave hbusy, hfits, hcrc (.inl (.inl hp))⟩,
      State.not_pending_of_ne_connecting hpend (by simp [hp]), hlink (.inl hp), hfb (.inr hp), hrxlen, hrxexp, (htx hp).1⟩
  · rintro ⟨⟨hdone, herr, hexc, hmis, hbuf⟩, ⟨hslave, hfits, hcrc⟩, hpend, hlink, hfb, hrxlen, hrxexp, hpos⟩
    exact ⟨⟨by simp [hp], by simp [hpend], fun _ => hlink, fun _ => ⟨hpos, hfits⟩, by simp [hp], fun _ => .inl hslave⟩,
      ⟨fun _ => ⟨hrxlen, hrxexp, hfits⟩, by simp [hpend], by simp [hp], by simp [hp], by simp [hp], by simp [hp],
        fun _ => hcrc, by simp [hp]⟩,
      ⟨fun _ => ⟨hdone, herr, hexc, hmis⟩, fun _ => hfb, fun _ => hexc, by simp [hmis]⟩, hbuf⟩

theorem State.inv_iff_of_rx {s : State} (hp : s.phase = .rx) : s.Inv ↔ s.RxInv := by
  have hbusy : s.phase ≠ .idle := by simp [hp]
  constructor
  · rintro ⟨⟨-, hpend, hlink, -, hrx, hslave⟩, ⟨-, -, hsent, hunsized, hlate, hexcept, hcrc, -⟩, ⟨hres, -, -, -⟩, hbuf⟩
    obtain ⟨hdone, herr, hexc, hmis⟩ := hres hbusy
    exact ⟨⟨hdone, herr, hexc, hmis, hbuf⟩, ⟨by simpa [hp] using hslave hbusy, (hsent hp).2, hcrc (.inr hp)⟩,
      State.not_pending_of_ne_connecting hpend (by simp [hp]), hlink (.inr hp), (hsent hp).1, (hrx hp).1, hunsized hp,
      (hrx hp).2, hlate hp, hexcept hp⟩
  · rintro ⟨⟨hdone, herr, hexc, hmis, hbuf⟩, ⟨hslave, hfits, hcrc⟩, hpend, hlink, hpos, hroom, hunsized, hsized, hlate,
      hexcept⟩
    exact ⟨⟨by simp [hp], by simp [hpend], fun _ => hlink, by simp [hp], fun _ => ⟨hroom, hsized⟩, fun _ => .inl hslave⟩,
      ⟨by simp [hp, hpend], by simp [hpend], fun _ => ⟨hpos, hfits⟩, fun _ => hunsized, fun _ => hlate, fun _ => hexcept,
        fun _ => hcrc, by simp [hp]⟩,
      ⟨fun _ => ⟨hdone, herr, hexc, hmis⟩, by simp [hp], fun _ => hexc, by simp [hmis]⟩, hbuf⟩

theorem State.Inv.buffers {s : State} (h : s.Inv) : s.BuffersCanonical := by
  obtain ⟨-, -, -, hbuf⟩ := h
  exact hbuf

theorem State.Inv.busyInv {s : State} (h : s.Inv) (hp : s.phase ≠ .idle) : s.BusyInv := by
  obtain ⟨-, -, ⟨hres, -⟩, hbuf⟩ := h
  obtain ⟨hdone, herr, hexc, hmis⟩ := hres hp
  exact ⟨hdone, herr, hexc, hmis, hbuf⟩

theorem State.IdleInv.inv {s : State} (h : s.IdleInv) (hp : s.phase = .idle) : s.Inv :=
  (State.inv_iff_of_idle hp).mpr h

/-! ### Updates that end in IDLE -/

/-- Completing gives an idle block, whose result must fit its code (10_state.md R23, 42_codec.md R148). -/
theorem State.complete_inv {s : State} {e : ErrCode} (hexc : e ≠ .exceptionResponse → s.excCode = 0)
    (hmis : s.fcMismatch = true → e = .ok) (hbuf : s.BuffersCanonical) : (s.complete e).Inv :=
  State.IdleInv.inv ⟨rfl, rfl, hexc, hmis, hbuf⟩ rfl

/-- From a clear result every code completes well. -/
theorem State.complete_inv_of_clear {s : State} (e : ErrCode) (hexc : s.excCode = 0) (hmis : s.fcMismatch = false)
    (hbuf : s.BuffersCanonical) : (s.complete e).Inv :=
  State.complete_inv (fun _ => hexc) (by simp [hmis]) hbuf

theorem State.BusyInv.complete_inv {s : State} (h : s.BusyInv) (e : ErrCode) : (s.complete e).Inv :=
  State.complete_inv_of_clear e h.excCode h.fcMismatch h.buffers

theorem State.completeVerify_inv {s : State} (l : Nat) (hexc : s.excCode = 0) (hmis : s.fcMismatch = false)
    (hbuf : s.BuffersCanonical) : (s.completeVerify l).Inv := by
  obtain ⟨hcode, hok⟩ := State.verify_clean hexc hmis l
  exact State.complete_inv hcode hok hbuf

/-- Every element at its reset value is an idle block (70_reset_and_hazards.md R250). -/
theorem State.cleared_inv (p : Params) {tx rx : Memory} (htx : tx.wf = true) (hrx : rx.wf = true) (i : List Event)
    (o : List Output) : (State.cleared p tx rx i o).Inv :=
  State.IdleInv.inv ⟨rfl, rfl, fun _ => rfl, fun _ => rfl, htx, hrx⟩ rfl

theorem State.Inv.resetEvent {s : State} (h : s.Inv) : s.resetEvent.Inv :=
  State.cleared_inv s.params h.buffers.1 h.buffers.2 s.inputs _

/-! ### The commands -/

/-- An engine command is refused, or runs from IDLE (43_transport.md R172). -/
theorem engineCommand_keeps_inv {s r : State} {needsSlave : Bool} (h : s.Inv)
    (hr : s.phase = .idle → (needsSlave = true → s.slaveSet = true) → r.Inv) :
    ∃ t, (if s.refuses needsSlave then .next s.markReject else .next r : Host.Outcome State Fault Refusal) = .next t ∧
      t.Inv := by
  split_ifs with hn
  · exact ⟨_, rfl, h⟩
  · obtain ⟨hp, hs⟩ := State.idle_of_not_refuses (by simpa using hn)
    exact ⟨r, rfl, hr hp hs⟩

theorem State.Inv.runEncode {s : State} (h : s.Inv) : s.accept.runEncode.Inv := by
  unfold State.runEncode
  split_ifs <;> exact State.complete_inv_of_clear _ rfl rfl h.buffers

/-- A fresh request goes out over a link that stands (R173). -/
theorem State.enterTx_inv {s : State} (hbusy : s.BusyInv) (hfb : s.fallback = false) (hreq : s.RequestInv)
    (hfresh : s.Fresh) (hpend : s.pendingStart = false) (hl : s.link = true) : s.enterTx.Inv := by
  obtain ⟨hdone, herr, hexc, hmis, hbuf⟩ := hbusy
  obtain ⟨hslave, hfits, hcrc⟩ := hreq
  exact (State.inv_iff_of_tx rfl).mpr ⟨⟨hdone, herr, hexc, hmis, hbuf⟩, ⟨hslave, hfits, hcrc⟩, hpend, hl, hfb,
    hfresh.rxlen, hfresh.rxexp, by simp [hfresh.txpos]⟩

/-- Without a link the block dials, with a fresh request if a START waits (R173, R174). -/
theorem State.dial_inv {s : State} {pending : Bool} (hbusy : s.BusyInv) (hfb : s.fallback = false) (hl : s.link = false)
    (hstart : pending = true → s.RequestInv ∧ s.Fresh) : (s.dial pending).Inv := by
  obtain ⟨hdone, herr, hexc, hmis, hbuf⟩ := hbusy
  refine (State.inv_iff_of_connecting rfl).mpr ⟨⟨hdone, herr, hexc, hmis, hbuf⟩, hl, hfb, fun hp => ?_, fun hp => ?_⟩
  · obtain ⟨⟨hslave, hfits, hcrc⟩, -⟩ := hstart hp
    exact ⟨hslave, hfits, hcrc⟩
  · obtain ⟨-, hpos, hrxlen, hrxexp⟩ := hstart hp
    exact ⟨hpos, hrxlen, hrxexp⟩

/-- What START has prepared when it looks at LINK: a clear result, and a fresh request with its CRC (42_codec.md R141,
43_transport.md R173). -/
theorem State.begun_inv {s : State} (hs : s.slaveSet = true) (hlong : ¬s.accept.payloadTooLong = true)
    (hbuf : s.BuffersCanonical) :
    s.accept.encodeCrc.rewind.armDeadline.BusyInv ∧ s.accept.encodeCrc.rewind.armDeadline.RequestInv ∧
      s.accept.encodeCrc.rewind.armDeadline.Fresh := by
  refine ⟨⟨by simp, by simp, by simp, by simp, by simpa [State.BuffersCanonical] using hbuf⟩, ⟨by simpa using hs, ?_, ?_⟩,
    ⟨by simp, by simp, by simp⟩⟩
  · simpa [State.payloadTooLong] using hlong
  · exact congrArg crc16 (State.txBody_congr (by simp) (by simp) (by simp) (by simp)).symm

/-- START enters TX or dials, with a fresh request either way (R173). -/
theorem State.Inv.runStart {s : State} (h : s.Inv) (hp : s.phase = .idle) (hs : s.slaveSet = true) :
    s.accept.runStart.Inv := by
  have hpend := ((State.inv_iff_of_idle hp).mp h).pending
  unfold State.runStart State.beginExchange
  split_ifs with hlong hl
  · exact State.complete_inv_of_clear _ rfl rfl h.buffers
  · obtain ⟨hbusy, hreq, hfresh⟩ := State.begun_inv hs hlong h.buffers
    exact State.enterTx_inv hbusy (by simp) hreq hfresh (by simpa using hpend) (by simpa using hl)
  · obtain ⟨hbusy, hreq, hfresh⟩ := State.begun_inv hs hlong h.buffers
    exact State.dial_inv hbusy (by simp) (by simpa using hl) fun _ => ⟨hreq, hfresh⟩

theorem State.Inv.runConnect {s : State} (h : s.Inv) : s.accept.runConnect.Inv := by
  unfold State.runConnect
  split_ifs with hl
  · exact State.complete_inv_of_clear _ rfl rfl h.buffers
  · exact State.dial_inv ⟨rfl, rfl, rfl, rfl, h.buffers⟩ rfl (by simpa using hl) (by simp)

theorem State.Inv.runClose {s : State} (h : s.Inv) : s.accept.runClose.Inv := by
  unfold State.runClose
  split_ifs <;> exact State.complete_inv_of_clear _ rfl rfl h.buffers

theorem exec_keeps_inv (i : Instr) {s : State} (h : s.Inv) : ∃ t, exec i s = .next t ∧ t.Inv := by
  cases i with
  | nop | crcInit | crcByte | crcVerify => exact ⟨_, rfl, h⟩
  | encode => exact engineCommand_keeps_inv h fun _ _ => h.runEncode
  | decode => exact engineCommand_keeps_inv h fun _ _ => State.completeVerify_inv _ rfl rfl h.buffers
  | start => exact engineCommand_keeps_inv h fun hp hs => h.runStart hp (hs rfl)
  | connect => exact engineCommand_keeps_inv h fun _ _ => h.runConnect
  | close => exact engineCommand_keeps_inv h fun _ _ => h.runClose

/-! ### The host bus -/

theorem bufferIndex_lt (a : HostAddr) : bufferIndex a < Config.maxAdu :=
  (a.extractLsb' 2 8).isLt

/-- A buffer word that an address reaches is one of the buffer's 256 (20_memory.md R64). -/
theorem busTarget_buffer_lt {a : HostAddr} {i : Nat} (h : busTarget a = .txbuf i ∨ busTarget a = .rxbuf i) :
    i < Config.maxAdu := by
  unfold busTarget at h
  split_ifs at h
  · obtain rfl : bufferIndex a = i := by simpa using h
    exact bufferIndex_lt a
  · obtain rfl : bufferIndex a = i := by simpa using h
    exact bufferIndex_lt a
  · split at h <;> simp at h

/-- An acknowledgement can only clear DONE, and the invariant never asks for DONE. -/
theorem State.Inv.acknowledge {s : State} (h : s.Inv) (v : Word) : (s.acknowledge v).Inv := by
  obtain ⟨hspec, hengine, ⟨hres, hrest⟩, hbuf⟩ := h
  refine ⟨hspec, hengine, ⟨fun hp => ?_, hrest⟩, hbuf⟩
  obtain ⟨hdone, hresult⟩ := hres hp
  exact ⟨by simp [State.acknowledge, hdone], hresult⟩

/-- A store that changes a request, a length or a buffer finds the block idle (20_memory.md R69). -/
theorem State.Inv.onStore {s : State} (h : s.Inv) {tgt : BusTarget} (v : Word)
    (hi : ∀ i, tgt = .txbuf i ∨ tgt = .rxbuf i → i < Config.maxAdu) : (onStore tgt v s).Inv := by
  unfold Machine.onStore
  split_ifs with hb
  · exact h
  · have hidle (hprot : tgt.isProtected = true) : s.phase = .idle ∧ s.IdleInv := by
      have hp : s.phase = .idle := by simpa [State.busy, hprot] using hb
      exact ⟨hp, (State.inv_iff_of_idle hp).mp h⟩
    cases tgt with
    | reg r =>
      cases r with
      | status => exact h.acknowledge v
      | slave | txfc | txlen | rxlen =>
        obtain ⟨hp, hpend, hdl, hexc, hmis, hbuf⟩ := hidle rfl
        exact State.IdleInv.inv ⟨hpend, hdl, hexc, hmis, hbuf⟩ hp
      | _ => exact h
    | txbuf i =>
      obtain ⟨hp, hpend, hdl, hexc, hmis, htx, hrx⟩ := hidle rfl
      exact State.IdleInv.inv ⟨hpend, hdl, hexc, hmis, Memory.wf_write (hi i (.inl rfl)) _ htx, hrx⟩ hp
    | rxbuf i =>
      obtain ⟨hp, hpend, hdl, hexc, hmis, htx, hrx⟩ := hidle rfl
      exact State.IdleInv.inv ⟨hpend, hdl, hexc, hmis, htx, Memory.wf_write (hi i (.inr rfl)) _ hrx⟩ hp
    | unmapped => exact h

theorem onHostWrite_keeps_inv (a : HostAddr) (v : Word) {s : State} (h : s.Inv) :
    ∃ t, onHostWrite a v s = .next t ∧ t.Inv := by
  obtain ⟨-, hw⟩ | ⟨-, hw⟩ := onHostWrite_cases a v s <;> rw [hw]
  · obtain ⟨i, -, hx⟩ | ⟨-, hx⟩ := writeCmd_next v s <;> rw [hx]
    · exact exec_keeps_inv i h
    · exact ⟨_, rfl, h⟩
  · exact ⟨_, rfl, h.onStore v fun i => busTarget_buffer_lt⟩

/-! ### The length dispatch -/

/-- dispatch() is inside its precondition while at most 3 bytes have arrived (41_length_dispatch.md R128). -/
theorem State.dispatch_ne_outside {s : State} (hpos : 1 ≤ s.rxlen.toNat) (hle : s.rxlen.toNat ≤ 3) :
    s.dispatch ≠ .outside := by
  have hlen : s.rxlen.toNat = 1 ∨ s.rxlen.toNat = 2 ∨ s.rxlen.toNat = 3 := by omega
  unfold State.dispatch
  obtain h | h | h := hlen <;> rw [h]
  · simp [lengthDecision]
  · simp only [lengthDecision]
    split_ifs
    · simp
    · cases s.txClass <;> simp [classDecision]
  · simp only [lengthDecision, countDecision]
    split_ifs <;> simp

/-- dispatch() waits for the second byte, or for the byte count of a reply that is no exception (R123, R124). -/
theorem State.dispatch_wait {s : State} (h : s.dispatch = .wait) :
    s.rxlen.toNat = 1 ∨ s.rxlen.toNat = 2 ∧ s.rxAt 1 ≠ exceptionCodeOf s.txfc := by
  unfold State.dispatch lengthDecision at h
  split at h
  · exact .inl ‹_›
  · split_ifs at h with hf
    exact .inr ⟨‹_›, hf⟩
  · unfold countDecision at h
    split_ifs at h
  · cases h

/-- At the second byte a length is 8 or 4 by the request's class (R125 to R127). -/
theorem classDecision_expect {c : FcClass} {n : Nat} {fb : Bool} (h : classDecision c = .expect n fb) :
    n = writeLength ∨ n = Config.minAdu := by
  cases c <;> cases h
  · exact .inl rfl
  · exact .inl rfl
  · exact .inr rfl

/-- A length that dispatch() gives fits RXBUF and exceeds what has arrived; an exception gets 5 (R122 to R129). -/
theorem State.dispatch_expect {s : State} {n : Nat} {fb : Bool} (h : s.dispatch = .expect n fb) :
    2 ≤ s.rxlen.toNat ∧ s.rxlen.toNat ≤ 3 ∧ Config.minAdu ≤ n ∧ n ≤ Config.maxAdu ∧
      (s.rxlen.toNat = 2 → s.rxAt 1 = exceptionCodeOf s.txfc → n = exceptionLength) := by
  unfold State.dispatch lengthDecision at h
  split at h
  · cases h
  · next hlen =>
    split_ifs at h with hf
    · cases h
      simp [hlen, exceptionLength, Config.minAdu, Config.maxAdu]
    · obtain rfl | rfl := classDecision_expect h <;> simp [hlen, hf, writeLength, Config.minAdu, Config.maxAdu]
  · next hlen =>
    unfold countDecision at h
    split_ifs at h with hbc
    cases h
    have hle : (s.rxAt 2).toNat ≤ 251 := by simpa [maxByteCount] using hbc
    simp only [hlen, readLength, Config.minAdu, Config.maxAdu]
    omega
  · cases h

/-! ### The byte streams -/

/-- A TxPull in TX moves TXPOS on inside the frame, or opens RX after the last byte (43_transport.md R176). -/
theorem State.Inv.advanceTx {s : State} (h : s.Inv) (hp : s.phase = .tx) : s.advanceTx.Inv := by
  obtain ⟨⟨hdone, herr, hexc, hmis, hbuf⟩, ⟨hslave, hfits, hcrc⟩, hpend, hlink, hfb, hrxlen, hrxexp, hpos⟩ :=
    (State.inv_iff_of_tx hp).mp h
  unfold State.advanceTx
  split_ifs with hlast
  · exact (State.inv_iff_of_rx rfl).mpr
      ⟨⟨hdone, herr, hexc, hmis, hbuf⟩, ⟨hslave, hfits, hcrc⟩, hpend, hlink, hlast, by simp [hrxlen], by simp [hrxlen],
        by simp [hrxexp], by simp [hrxexp], by simp [hrxlen]⟩
  · have hnext : (s.txpos + 1).toNat < s.txlen.toNat + 4 := by
      have hle := Nat.mod_le (s.txpos.toNat + 1) (2 ^ 8)
      rw [BitVec.toNat_add]
      exact lt_of_le_of_lt hle (by omega)
    exact (State.inv_iff_of_tx (by exact hp)).mpr
      ⟨⟨hdone, herr, hexc, hmis, hbuf⟩, ⟨hslave, hfits, hcrc⟩, hpend, hlink, hfb, hrxlen, hrxexp, hnext⟩

theorem onTxPull_keeps_inv {s : State} (h : s.Inv) : ∃ t, onTxPull s = .next t ∧ t.Inv := by
  unfold onTxPull
  split_ifs with hp hframe
  · exact ⟨s, rfl, h⟩
  · exact ⟨_, rfl, State.Inv.advanceTx (s := s.emit _) h (not_not.mp hp)⟩
  · have htx := (State.inv_iff_of_tx (not_not.mp hp)).mp h
    exact absurd (by simp [State.txInFrame, htx.fits, Nat.le_of_lt_succ htx.txpos]) hframe

/-- What holds in RX between the store of a byte and the completion test (43_transport.md R178): the byte counts, a reply of
three unsized bytes is no exception, and the length may be reached. -/
structure State.StoredInv (s : State) : Prop extends s.BusyInv, s.RequestInv where
  pending : s.pendingStart = false
  link : s.link = true
  txpos : s.txpos.toNat = s.txlen.toNat + 3
  stored : 1 ≤ s.rxlen.toNat
  unsized : s.rxexp = 0 → s.rxlen.toNat ≤ 3 ∧ (s.rxlen.toNat = 3 → s.rxAt 1 ≠ exceptionCodeOf s.txfc)
  sized : s.rxexp ≠ 0 → Config.minAdu ≤ s.rxexp.toNat ∧ s.rxexp.toNat ≤ Config.maxAdu ∧ s.rxlen.toNat ≤ s.rxexp.toNat
  sizedLate : s.rxexp ≠ 0 → 2 ≤ s.rxlen.toNat
  exception : s.rxexp ≠ 0 → s.rxAt 1 = exceptionCodeOf s.txfc → s.rxexp = 5

/-- RXLEN + 1 keeps its 9 bits while RXBUF has room. -/
theorem State.toNat_rxlen_storeRx {s : State} (h : s.rxlen.toNat < Config.maxAdu) (b : Byte) :
    (s.storeRx b).rxlen.toNat = s.rxlen.toNat + 1 := by
  have hlt : s.rxlen.toNat + 1 < 2 ^ 9 := Nat.lt_of_le_of_lt h (by decide)
  simpa using hlt

/-- A byte stored after the second leaves the function code of the reply alone. -/
theorem State.rxAt_one_storeRx {s : State} (h : 2 ≤ s.rxlen.toNat) (b : Byte) : (s.storeRx b).rxAt 1 = s.rxAt 1 := by
  rw [State.rxAt_storeRx, if_neg (by omega)]

theorem State.RxInv.storeRx {s : State} (h : s.RxInv) (b : Byte) : (s.storeRx b).StoredInv := by
  obtain ⟨⟨hdone, herr, hexc, hmis, htx, hrx⟩, ⟨hslave, hfits, hcrc⟩, hpend, hlink, hpos, hroom, hunsized, hsized, hlate,
    hexcept⟩ := h
  have hlen := State.toNat_rxlen_storeRx hroom b
  refine ⟨⟨hdone, herr, hexc, hmis, htx, Memory.wf_write hroom b hrx⟩, ⟨hslave, hfits, hcrc⟩, hpend, hlink, hpos,
    by omega, fun hx => ⟨?_, fun h3 hf => ?_⟩, fun hx => ?_, fun hx => ?_, fun hx hf => ?_⟩
  · have := hunsized hx
    omega
  · have h2 : 2 ≤ s.rxlen.toNat := by omega
    rw [State.rxAt_one_storeRx h2] at hf
    exact absurd (hx.symm.trans (hexcept h2 hf)) (by decide)
  · obtain ⟨hmin, hmax, hlt⟩ := hsized hx
    exact ⟨hmin, hmax, hlen ▸ hlt⟩
  · have := hlate hx
    omega
  · rw [State.rxAt_one_storeRx (hlate hx)] at hf
    exact hexcept (hlate hx) hf

/-- Once the length is known, the stored byte completes the frame or leaves it short of its length (R178, R180). -/
theorem State.StoredInv.finishRx {s : State} (h : s.StoredInv) (hp : s.phase = .rx) (hx : s.rxexp ≠ 0) : s.finishRx.Inv := by
  obtain ⟨-, -, hf⟩ | ⟨hshort, hf⟩ := s.finishRx_cases <;> rw [hf]
  · exact State.completeVerify_inv _ h.excCode h.fcMismatch h.buffers
  · obtain ⟨hmin, hmax, hle⟩ := h.sized hx
    have hlt : s.rxlen.toNat < s.rxexp.toNat :=
      lt_of_le_of_ne hle fun heq => hshort ⟨hx, BitVec.eq_of_toNat_eq heq⟩
    exact (State.inv_iff_of_rx hp).mpr ⟨h.toBusyInv, h.toRequestInv, h.pending, h.link, h.txpos, lt_of_lt_of_le hlt hmax,
      fun h0 => absurd h0 hx, fun _ => ⟨hmin, hmax, hlt⟩, h.sizedLate, fun _ => h.exception hx⟩

/-- While dispatch() waits nothing completes, and no exception's function code has come (R123, R178). -/
theorem State.StoredInv.finishRx_of_wait {s : State} (h : s.StoredInv) (hp : s.phase = .rx) (hx : s.rxexp = 0)
    (hw : s.dispatch = .wait) : s.finishRx.Inv := by
  have hf : s.finishRx = s := if_neg fun hdone => hdone.1 hx
  have hshort := State.dispatch_wait hw
  have hle : s.rxlen.toNat ≤ 2 := by omega
  rw [hf]
  exact (State.inv_iff_of_rx hp).mpr ⟨h.toBusyInv, h.toRequestInv, h.pending, h.link, h.txpos, hle.trans_lt (by decide),
    fun _ => hle, fun h0 => absurd hx h0, fun h0 => absurd hx h0,
    fun h2 hcode => absurd hcode (hshort.resolve_left (by omega)).2⟩

/-- A length that dispatch() gives is above the bytes that have arrived (R122 to R129). -/
theorem State.StoredInv.expectLength {s : State} (h : s.StoredInv) (hx : s.rxexp = 0) {n : Nat} {fb : Bool}
    (hd : s.dispatch = .expect n fb) : (s.expectLength n fb).StoredInv ∧ (s.expectLength n fb).rxexp ≠ 0 := by
  obtain ⟨⟨hdone, herr, hexc, hmis, hbuf⟩, ⟨hslave, hfits, hcrc⟩, hpend, hlink, hpos, hstored, hunsized, -⟩ := h
  obtain ⟨h2, h3, hmin, hmax, hexcept⟩ := State.dispatch_expect hd
  have hn : (BitVec.ofNat 9 n).toNat = n := Nat.mod_eq_of_lt (lt_of_le_of_lt hmax (by decide))
  have hne : BitVec.ofNat 9 n ≠ 0 := fun h0 => absurd (h0 ▸ hn ▸ hmin) (by decide)
  refine ⟨⟨⟨hdone, herr, hexc, hmis, hbuf⟩, ⟨hslave, hfits, hcrc⟩, hpend, hlink, hpos, hstored, fun h0 => absurd h0 hne,
    fun _ => ?_, fun _ => h2, fun _ hf => ?_⟩, hne⟩
  · rw [State.expectLength_rxexp, State.expectLength_rxlen, hn]
    exact ⟨hmin, hmax, (h3.trans (by decide)).trans hmin⟩
  · have hlen : s.rxlen.toNat = 2 := by
      have := mt (hunsized hx).2 (not_not.mpr hf)
      omega
    rw [State.expectLength_rxexp, hexcept hlen hf]
    rfl

theorem State.StoredInv.reassemble {s : State} (h : s.StoredInv) (hp : s.phase = .rx) :
    ∃ t, s.reassemble = .next t ∧ t.Inv := by
  unfold State.reassemble
  split_ifs with hx
  · unfold State.sizeRx
    cases hd : s.dispatch with
    | wait => exact ⟨_, rfl, h.finishRx_of_wait hp hx hd⟩
    | expect n fb =>
      obtain ⟨hsized, hne⟩ := h.expectLength hx hd
      exact ⟨_, rfl, hsized.finishRx hp hne⟩
    | lengthError => exact ⟨_, rfl, h.complete_inv _⟩
    | outside => exact absurd hd (State.dispatch_ne_outside h.stored (h.unsized hx).1)
  · exact ⟨_, rfl, h.finishRx hp hx⟩

theorem onRxByte_keeps_inv (b : Byte) {s : State} (h : s.Inv) : ∃ t, onRxByte b s = .next t ∧ t.Inv := by
  unfold onRxByte
  split_ifs with hp hroom
  · exact ⟨_, rfl, h⟩
  · rw [not_not] at hp
    exact (((State.inv_iff_of_rx hp).mp h).storeRx b).reassemble hp
  · exact absurd ((State.inv_iff_of_rx (not_not.mp hp)).mp h).rxlen hroom

/-! ### The link and the deadline -/

theorem State.Inv.onConnectOk {s : State} (h : s.Inv) : (onConnectOk s).Inv := by
  unfold Machine.onConnectOk
  split_ifs with hp hpend
  · exact h
  · obtain ⟨⟨hdone, herr, hexc, hmis, hbuf⟩, -, hfb, hreq, hfresh⟩ := (State.inv_iff_of_connecting (not_not.mp hp)).mp h
    obtain ⟨hslave, hfits, hcrc⟩ := hreq hpend
    obtain ⟨hpos, hrxlen, hrxexp⟩ := hfresh hpend
    exact (State.inv_iff_of_tx rfl).mpr
      ⟨⟨hdone, herr, hexc, hmis, hbuf⟩, ⟨hslave, hfits, hcrc⟩, rfl, rfl, hfb, hrxlen, hrxexp,
        by simp [State.linkUpForStart, hpos]⟩
  · have hbusy := h.busyInv (by simp [not_not.mp hp])
    exact State.complete_inv_of_clear _ hbusy.excCode hbusy.fcMismatch hbusy.buffers

theorem State.Inv.onConnectFail {s : State} (h : s.Inv) : (onConnectFail s).Inv := by
  unfold Machine.onConnectFail
  split_ifs with hp
  · exact (h.busyInv (by simp [hp])).complete_inv _
  · exact h

theorem State.Inv.onLinkDown {s : State} (h : s.Inv) : (onLinkDown s).Inv := by
  unfold Machine.onLinkDown
  cases hp : s.phase with
  | connecting | tx | rx => exact (h.busyInv (by simp [hp])).complete_inv _
  | idle =>
    obtain ⟨hpend, hdl, hexc, hmis, hbuf⟩ := (State.inv_iff_of_idle hp).mp h
    exact State.IdleInv.inv ⟨hpend, hdl, hexc, hmis, hbuf⟩ rfl

/-- Only an idle block needs its deadline at 0. -/
theorem State.Inv.countDown {s : State} (h : s.Inv) (hp : s.phase ≠ .idle) : s.countDown.Inv := by
  obtain ⟨⟨-, hspec⟩, hrest⟩ := h
  exact ⟨⟨fun hidle => absurd hidle hp, hspec⟩, hrest⟩

theorem State.Inv.expire {s : State} (h : s.Inv) : s.expire.Inv := by
  unfold State.expire
  cases hp : s.phase with
  | connecting | tx | rx => exact (h.busyInv (by simp [hp])).complete_inv _
  | idle => exact h

theorem State.Inv.onTick {s : State} (h : s.Inv) : (onTick s).Inv := by
  obtain ⟨-, ht⟩ | ⟨hp, -, -, ht⟩ | ⟨hp, -, -, ht⟩ := onTick_cases s <;> rw [ht]
  · exact h
  · exact (h.countDown hp).expire
  · exact h.countDown hp

/-! ### Every event -/

theorem handleEvent_keeps_inv (e : Event) {s : State} (h : s.Inv) : ∃ t, handleEvent e s = .next t ∧ t.Inv := by
  cases e with
  | reset => exact ⟨_, rfl, h.resetEvent⟩
  | hostRead a => exact ⟨_, rfl, h⟩
  | hostWrite a v => exact onHostWrite_keeps_inv a v h
  | txPull => exact onTxPull_keeps_inv h
  | rxByte b => exact onRxByte_keeps_inv b h
  | connectOk => exact ⟨_, rfl, h.onConnectOk⟩
  | connectFail => exact ⟨_, rfl, h.onConnectFail⟩
  | linkDown => exact ⟨_, rfl, h.onLinkDown⟩
  | tick => exact ⟨_, rfl, h.onTick⟩

/-- The parameters of a power-up meet R8: the free timing carries its constraints, and the default table classes 0x03. -/
theorem initialParams_wellFormed : initialParams.wellFormed = true := by
  have hperiod : initialParams.periodPositive = true := decide_eq_true Config.timing.period_pos
  have hseconds : initialParams.singleDigitSeconds = true :=
    Bool.and_eq_true_iff.mpr
      ⟨decide_eq_true Config.timing.at_least_one_second, decide_eq_true Config.timing.at_most_nine_seconds⟩
  have hread : initialParams.readsHoldingRegisters = true := by decide
  rw [Params.wellFormed, hperiod, hseconds, hread]
  rfl

/-! ### The obligations -/

/-- Settles O53: the effect of the step's event keeps the invariant, which does not read the inputs to come. -/
theorem stepKeepsInvariant : Obligations.StepKeepsInvariant := by
  intro s h
  cases hs : s.inputs with
  | nil => exact ⟨s, step_nil hs, h⟩
  | cons e rest =>
    rw [step_cons hs]
    exact handleEvent_keeps_inv e h

/-- Settles O52: the power-up state is a cleared one, with buffers never written. -/
theorem invariantHoldsAtReset : Obligations.InvariantHoldsAtReset :=
  ⟨State.cleared_inv initialParams Memory.wf_nil Memory.wf_nil _ _, initialParams_wellFormed⟩

end Sys2Proof.Machine
end

section
/-! PROOFS. What every event does to LINK (10_state.md R39), said once for all of them: `handleEvent_linkEffect`. -/

namespace Sys2Proof.Machine

/-! ### The ways of LINK -/

/-- What an event does to LINK, from a block with `link` in phase `p` to `t`: it keeps it and completes no exchange, sets it,
completes with an error that may invalidate it, or clears it by its own rule (10_state.md R39, 60_exceptions.md R221). -/
inductive LinkEffect (e : Event) (link : Bool) (p : Phase) (t : State) : Prop where
  | kept (hl : t.link = link) (ht : t.phase = .idle → p = .idle)
  | linkUp (he : e = .connectOk) (hp : p = .connecting) (hl : t.link = true) (ht : t.phase = .idle → t.err = .ok)
  | completed (c : ErrCode) (hl : t.link = (link && !c.invalidates p)) (ht : t.EndedWith c)
  | cleared (he : (e.commands .close ∧ p = .idle) ∨ e = .linkDown ∨ e = .reset) (hl : t.link = false)

/-- The codes that invalidate the link, by name (60_exceptions.md R221). -/
theorem ErrCode.invalidates_iff (c : ErrCode) (p : Phase) :
    c.invalidates p = true ↔
      c = .connectionError ∨ c = .writeError ∨ c = .readError ∨ c = .timeoutError ∨ (c = .lengthError ∧ p = .rx) := by
  simp [ErrCode.invalidates, ErrCode.alwaysTransport, or_assoc]

theorem LinkEffect.complete {e : Event} {link : Bool} {p : Phase} {u : State} (c : ErrCode) (hl : u.link = link)
    (hp : u.phase = p) : LinkEffect e link p (u.complete c) :=
  .completed c (by rw [← hl, ← hp]; rfl) ⟨rfl, rfl, rfl⟩

/-- A busy block that ends with an error of the transport class has lost its link. -/
theorem LinkEffect.link_false_of_error {e : Event} {link : Bool} {p : Phase} {t : State} (h : LinkEffect e link p t)
    (hp : p ≠ .idle) (ht : t.phase = .idle) (herr : t.err.invalidates p = true) : t.link = false := by
  cases h with
  | kept _ hidle => exact absurd (hidle ht) hp
  | linkUp _ _ _ hok => simp [hok ht, ErrCode.invalidates, ErrCode.alwaysTransport] at herr
  | completed c hl hend =>
    obtain ⟨-, -, hc⟩ := hend
    rw [hl, ← hc, herr, Bool.not_true, Bool.and_false]
  | cleared _ hl => exact hl

theorem LinkEffect.connectOk_of_rises {e : Event} {link : Bool} {p : Phase} {t : State} (h : LinkEffect e link p t)
    (hs : link = false) (ht : t.link = true) : e = .connectOk ∧ p = .connecting := by
  cases h with
  | kept hl _ => simp [hl, hs] at ht
  | linkUp he hp _ _ => exact ⟨he, hp⟩
  | completed c hl _ => simp [hl, hs] at ht
  | cleared _ hl => simp [hl] at ht

theorem LinkEffect.cause_of_falls {e : Event} {link : Bool} {p : Phase} {t : State} (h : LinkEffect e link p t)
    (hs : link = true) (ht : t.link = false) :
    (e.commands .close ∧ p = .idle) ∨ e = .linkDown ∨ e = .reset ∨
      (t.phase = .idle ∧ t.done = true ∧ t.err.invalidates p = true) := by
  cases h with
  | kept hl _ => simp [hl, hs] at ht
  | linkUp _ _ hl _ => simp [hl] at ht
  | completed c hl hend =>
    obtain ⟨hidle, hdone, hc⟩ := hend
    exact .inr (.inr (.inr ⟨hidle, hdone, by simpa [hl, hs, hc] using ht⟩))
  | cleared he _ =>
    obtain hclose | hdown | hreset := he
    · exact .inl hclose
    · exact .inr (.inl hdown)
    · exact .inr (.inr (.inl hreset))

/-! ### The commands -/

/-- A host write that reaches CMD runs its command (10_state.md R22). -/
theorem handleEvent_of_commands {e : Event} {i : Instr} (h : e.commands i) (s : State) : handleEvent e s = exec i s := by
  obtain ⟨a, v, rfl, ha, hv⟩ := h
  simp only [handleEvent, onHostWrite, ha, writeCmd, hv]

/-- An engine command is refused, which keeps LINK and PHASE, or runs from IDLE (43_transport.md R172). -/
theorem engineCommand_linkEffect {e : Event} {s r t : State} {needsSlave : Bool}
    (h : (if s.refuses needsSlave then .next s.markReject else .next r : Host.Outcome State Fault Refusal) = .next t)
    (hr : s.phase = .idle → LinkEffect e s.link s.phase r) : LinkEffect e s.link s.phase t := by
  split_ifs at h with hn
  · cases h; exact .kept rfl id
  · cases h; exact hr (State.idle_of_not_refuses (by simpa using hn)).1

theorem State.runEncode_linkEffect (e : Event) (s : State) : LinkEffect e s.link s.phase s.accept.runEncode := by
  unfold State.runEncode
  split_ifs <;> exact .complete _ rfl rfl

theorem State.runStart_linkEffect (e : Event) {s : State} (hp : s.phase = .idle) :
    LinkEffect e s.link s.phase s.accept.runStart := by
  unfold State.runStart State.beginExchange
  split_ifs
  · exact .complete _ rfl rfl
  · exact .kept (by simp) fun _ => hp
  · exact .kept (by simp) fun _ => hp

theorem State.runConnect_linkEffect (e : Event) {s : State} (hp : s.phase = .idle) :
    LinkEffect e s.link s.phase s.accept.runConnect := by
  unfold State.runConnect
  split_ifs
  · exact .complete _ rfl rfl
  · exact .kept rfl fun _ => hp

theorem State.link_runClose (s : State) : s.accept.runClose.link = false := by
  unfold State.runClose
  split_ifs with hl
  · rfl
  · have hnone : s.link = false := by simpa using hl
    simp [hnone]

theorem exec_linkEffect {e : Event} {i : Instr} {s t : State} (he : e.commands i) (h : exec i s = .next t) :
    LinkEffect e s.link s.phase t := by
  cases i with
  | nop | crcInit | crcByte | crcVerify => cases h; exact .kept rfl id
  | encode => exact engineCommand_linkEffect h fun _ => s.runEncode_linkEffect e
  | decode => exact engineCommand_linkEffect h fun _ => .complete _ rfl rfl
  | start => exact engineCommand_linkEffect h (State.runStart_linkEffect e)
  | connect => exact engineCommand_linkEffect h (State.runConnect_linkEffect e)
  | close => exact engineCommand_linkEffect h fun hp => .cleared (.inl ⟨he, hp⟩) s.link_runClose

/-- CLOSE, accepted, leaves no link (43_transport.md R175). -/
theorem link_of_close_accepted {s t : State} (hp : s.phase = .idle) (h : exec .close s = .next t) : t.link = false := by
  have hn : ¬s.refuses false = true := by simp [State.refuses_iff, hp]
  simp only [exec, execClose, if_neg hn] at h
  cases h
  exact s.link_runClose

/-! ### The other events -/

/-- No store reaches LINK or PHASE (20_memory.md R68). -/
theorem onStore_keeps_link (tgt : BusTarget) (v : Word) (s : State) :
    (onStore tgt v s).link = s.link ∧ (onStore tgt v s).phase = s.phase := by
  unfold onStore
  split_ifs
  · exact ⟨rfl, rfl⟩
  · cases tgt with
    | reg r => cases r <;> exact ⟨rfl, rfl⟩
    | txbuf | rxbuf | unmapped => exact ⟨rfl, rfl⟩

theorem onHostWrite_linkEffect {a : HostAddr} {v : Word} {s t : State} (h : onHostWrite a v s = .next t) :
    LinkEffect (.hostWrite a v) s.link s.phase t := by
  obtain ⟨ha, hw⟩ | ⟨-, hw⟩ := onHostWrite_cases a v s <;> rw [hw] at h
  · obtain ⟨i, hi, hx⟩ | ⟨-, hx⟩ := writeCmd_next v s <;> rw [hx] at h
    · exact exec_linkEffect ⟨a, v, rfl, ha, hi⟩ h
    · cases h; exact .kept rfl id
  · cases h
    obtain ⟨hl, hp⟩ := onStore_keeps_link (busTarget a) v s
    exact .kept hl fun ht => hp ▸ ht

theorem onTxPull_linkEffect {e : Event} {s t : State} (h : onTxPull s = .next t) : LinkEffect e s.link s.phase t := by
  obtain ⟨-, rfl⟩ | ⟨hp, -, rfl⟩ := onTxPull_next h
  · exact .kept rfl id
  · unfold State.advanceTx
    split_ifs
    · exact .kept rfl fun ht => absurd ht (by simp)
    · exact .kept rfl id

theorem State.finishRx_linkEffect (e : Event) (s : State) : LinkEffect e s.link s.phase s.finishRx := by
  obtain ⟨-, -, hf⟩ | ⟨-, hf⟩ := s.finishRx_cases <;> rw [hf]
  · exact .complete _ rfl rfl
  · exact .kept rfl id

theorem onRxByte_linkEffect {e : Event} {b : Byte} {s t : State} (h : onRxByte b s = .next t) :
    LinkEffect e s.link s.phase t := by
  obtain ⟨-, rfl⟩ | ⟨-, -, hr⟩ := onRxByte_next h
  · exact .kept rfl id
  · obtain ⟨-, rfl⟩ | ⟨-, ⟨-, rfl⟩ | ⟨n, fb, -, rfl⟩ | ⟨-, rfl⟩⟩ := State.reassemble_next hr
    · exact (s.storeRx b).finishRx_linkEffect e
    · exact (s.storeRx b).finishRx_linkEffect e
    · exact ((s.storeRx b).expectLength n fb).finishRx_linkEffect e
    · exact .complete _ rfl rfl

theorem onConnectOk_linkEffect (s : State) : LinkEffect .connectOk s.link s.phase (onConnectOk s) := by
  unfold onConnectOk
  split_ifs with hp
  · exact .kept rfl id
  · exact .linkUp rfl (not_not.mp hp) rfl fun ht => absurd ht (by simp [State.linkUpForStart])
  · exact .linkUp rfl (not_not.mp hp) rfl fun _ => rfl

theorem link_onConnectOk {s : State} (hp : s.phase = .connecting) : (onConnectOk s).link = true := by
  unfold onConnectOk
  rw [if_neg (not_not.mpr hp)]
  split_ifs <;> rfl

theorem onConnectFail_linkEffect (e : Event) (s : State) : LinkEffect e s.link s.phase (onConnectFail s) := by
  unfold onConnectFail
  split_ifs
  · exact .complete _ rfl rfl
  · exact .kept rfl id

/-- LinkDown leaves no link in any phase: while BUSY it completes with an error that invalidates (43_transport.md R183). -/
theorem link_onLinkDown (s : State) : (onLinkDown s).link = false := by
  unfold onLinkDown
  cases s.phase with
  | connecting | tx | rx => simp [ErrCode.invalidates, ErrCode.alwaysTransport]
  | idle => rfl

theorem State.expire_linkEffect (e : Event) (s : State) : LinkEffect e s.link s.phase s.expire := by
  unfold State.expire
  split
  · exact .complete _ rfl rfl
  · exact .complete _ rfl rfl
  · exact .complete _ rfl rfl
  · exact .kept rfl id

theorem onTick_linkEffect (e : Event) (s : State) : LinkEffect e s.link s.phase (onTick s) := by
  obtain ⟨-, ht⟩ | ⟨-, -, -, ht⟩ | ⟨-, -, -, ht⟩ := onTick_cases s <;> rw [ht]
  · exact .kept rfl id
  · exact s.countDown.expire_linkEffect e
  · exact .kept rfl id

/-! ### Every event -/

theorem handleEvent_linkEffect {e : Event} {s t : State} (h : handleEvent e s = .next t) :
    LinkEffect e s.link s.phase t := by
  cases e with
  | reset => cases h; exact .cleared (.inr (.inr rfl)) rfl
  | hostRead a => cases h; exact .kept rfl id
  | hostWrite a v => exact onHostWrite_linkEffect h
  | txPull => exact onTxPull_linkEffect h
  | rxByte b => exact onRxByte_linkEffect h
  | connectOk => cases h; exact onConnectOk_linkEffect s
  | connectFail => cases h; exact onConnectFail_linkEffect _ s
  | linkDown => cases h; exact .cleared (.inr (.inl rfl)) (link_onLinkDown s)
  | tick => cases h; exact onTick_linkEffect _ s

/-- Settles O57: the causes of a change are those of `LinkEffect`, and each of the four rules does leave LINK as it says. -/
theorem onlyListedRulesChangeLink : Obligations.OnlyListedRulesChangeLink := by
  refine ⟨rfl, fun s t e rest hs h => ?_⟩
  rw [step_cons hs] at h
  have heff := handleEvent_linkEffect h
  simp only [← ErrCode.invalidates_iff]
  refine ⟨?_, ?_, ?_, heff.link_false_of_error, heff.connectOk_of_rises, heff.cause_of_falls⟩
  · rintro rfl hp
    cases h
    exact link_onConnectOk hp
  · intro hclose hp
    rw [handleEvent_of_commands hclose] at h
    exact link_of_close_accepted (s := { s with inputs := rest }) hp h
  · rintro (rfl | rfl) <;> cases h
    · exact link_onLinkDown _
    · rfl

end Sys2Proof.Machine
end

section
/-! PROOFS. Decoding undoes encoding, so a command word is the command it encodes (30_encoding.md R80 to R82). -/

namespace Sys2Proof

/-- A word is H, then B, then OP, from bit 31 down (R80). -/
theorem word_eq_append (w : Word) : w = immH w ++ immB w ++ opField w := by
  have hhi : immH w ++ immB w = w.extractLsb' 8 (16 + 8) := BitVec.extractLsb'_append_extractLsb'_eq_extractLsb' rfl
  have hall : w.extractLsb' 8 (16 + 8) ++ opField w = w.extractLsb' 0 (16 + 8 + 8) :=
    BitVec.extractLsb'_append_extractLsb'_eq_extractLsb' rfl
  rw [hhi, hall]
  exact BitVec.extractLsb'_eq_self.symm

theorem wordFields_injective {v w : Word} (h : wordFields v = wordFields w) : v = w := by
  obtain ⟨hop, hb, hh⟩ := CommandFields.mk.inj h
  rw [word_eq_append v, word_eq_append w, hop, hb, hh]

/-- A row hits a word when it hits each of its three fields. -/
theorem OpRow.hits_eq (r : OpRow) (w : Word) :
    r.hits w = (opField w &&& opField r.mask == opField r.pattern && (immB w &&& immB r.mask == immB r.pattern &&
      immH w &&& immH r.mask == immH r.pattern)) := by
  have hfields : wordFields (w &&& r.mask) =
      ⟨opField w &&& opField r.mask, immB w &&& immB r.mask, immH w &&& immH r.mask⟩ := by
    simp only [wordFields, opField, immB, immH, BitVec.extractLsb'_and]
  have heq : w &&& r.mask = r.pattern ↔ wordFields (w &&& r.mask) = wordFields r.pattern :=
    ⟨congrArg wordFields, wordFields_injective⟩
  rw [Bool.eq_iff_iff, OpRow.hits, beq_iff_eq, heq, hfields, wordFields, CommandFields.mk.injEq]
  simp

/-- OP = 0x02 with H = 0 is the row CRC_BYTE, whatever B (R82). -/
theorem decode_of_crcByte_fields {w : Word} {b : Byte} (h : wordFields w = ⟨0x02, b, 0⟩) : decode w = .ok (.crcByte b) := by
  obtain ⟨hop, hb, hh⟩ := CommandFields.mk.inj h
  simp only [opField, immB, immH] at hop hb hh
  simp [decode, opTable, List.find?, OpRow.hits_eq, opField, immB, immH, hop, hb, hh]

/-- OP = 0x03 with B = 0 is the row CRC_VERIFY, whatever H (R82). -/
theorem decode_of_crcVerify_fields {w : Word} {h : Half} (hw : wordFields w = ⟨0x03, 0, h⟩) :
    decode w = .ok (.crcVerify h) := by
  obtain ⟨hop, hb, hh⟩ := CommandFields.mk.inj hw
  simp only [opField, immB, immH] at hop hb hh
  simp [decode, opTable, List.find?, OpRow.hits_eq, opField, immB, immH, hop, hb, hh]

theorem decode_encode (i : Instr) : decode (encode i) = .ok i := by
  cases i with
  | nop | crcInit | encode | decode | start | connect | close => rfl
  | crcByte b => exact decode_of_crcByte_fields (wordFields_append 0 b 0x02)
  | crcVerify h => exact decode_of_crcVerify_fields (wordFields_append h 0 0x03)

/-- The word of a 32-bit number is that number. -/
theorem commandWord_toNat (w : Word) : commandWord 32 w.toNat = w := by
  rw [commandWord, BitVec.toNat_mod_cancel, BitVec.ofNat_toNat, BitVec.setWidth_eq]

end Sys2Proof
end

section
/-! PROOFS. The host words of the registers: which word an address reaches, what a write stores and a read returns, and the
fields of STATUS and ENGINE (10_state.md R22 to R36, 20_memory.md R62 to R69). -/

namespace Sys2Proof.Machine

/-! ### Addresses, and the command word -/

/-- The block ignores addr[1:0] (20_memory.md R62). -/
theorem busTarget_wordAddr (a : HostAddr) : busTarget (wordAddr a) = busTarget a := by
  have hbase : (wordAddr a).extractLsb' 10 2 = a.extractLsb' 10 2 := by
    rw [wordAddr, BitVec.extractLsb'_and]
    exact BitVec.and_allOnes
  have hindex : (wordAddr a).extractLsb' 2 8 = a.extractLsb' 2 8 := by
    rw [wordAddr, BitVec.extractLsb'_and]
    exact BitVec.and_allOnes
  have hword : wordAddr (wordAddr a) = wordAddr a := by
    rw [wordAddr, wordAddr, BitVec.and_assoc, BitVec.and_self]
  simp only [busTarget, bufferIndex, hbase, hindex, hword]

theorem busTarget_of_wordAddr {a : HostAddr} {r : Reg} (h : wordAddr a = r.offset) : busTarget a = .reg r := by
  rw [← busTarget_wordAddr, h, busTarget_offset]

@[simp] theorem State.busRead_offset (s : State) (r : Reg) : s.busRead r.offset = s.readReg r := by
  rw [State.busRead, busTarget_offset, State.readTarget]

/-- Settles O6: any address of CMD's word reaches CMD, where a write runs its command and a read gives 0. -/
theorem stepRunsDecodedCommand : Obligations.StepRunsDecodedCommand := by
  intro s a rest ha
  have hcmd : busTarget a = .reg .cmd := busTarget_of_wordAddr ha
  refine ⟨fun v i hs hv => ?_, fun hs => ?_⟩
  · rw [step_cons hs]
    exact handleEvent_of_commands ⟨a, v, rfl, hcmd, hv⟩ _
  · rw [step_cons hs, handleEvent, onHostRead, State.busRead, hcmd]
    rfl

/-- Settles O7: the word placed at CMD decodes to the command it encodes. -/
theorem fetchWordRunsNext : Obligations.FetchWordRunsNext := by
  intro s i
  rw [step_cons (s := s.withFetchWord 32 (encode i).toNat) rfl, commandWord_toNat]
  exact handleEvent_of_commands ⟨_, _, rfl, busTarget_offset .cmd, decode_encode i⟩ _

/-! ### Stores -/

theorem onStore_of_idle {s : State} (hp : s.phase = .idle) (tgt : BusTarget) (v : Word) :
    onStore tgt v s = s.storeTarget tgt v := by
  simp [onStore, State.busy, hp]

theorem onStore_of_unprotected {tgt : BusTarget} (h : tgt.isProtected = false) (v : Word) (s : State) :
    onStore tgt v s = s.storeTarget tgt v := by
  simp [onStore, h]

/-- A host write to the offset of a register other than CMD is a store to it (20_memory.md R61, R68). -/
theorem handleEvent_hostWrite_offset {r : Reg} (hr : r ≠ .cmd) (v : Word) (s : State) :
    handleEvent (.hostWrite r.offset v) s = .next (onStore (.reg r) v s) := by
  obtain ⟨ha, -⟩ | ⟨-, hw⟩ := onHostWrite_cases r.offset v s
  · exact absurd (by simpa using ha) hr
  · rw [handleEvent, hw, busTarget_offset]

theorem handleEvent_hostWrite_unprotected {r : Reg} (hr : r ≠ .cmd) (hu : BusTarget.isProtected (.reg r) = false) (v : Word)
    (s : State) : handleEvent (.hostWrite r.offset v) s = .next (s.storeReg r v) := by
  rw [handleEvent_hostWrite_offset hr, onStore_of_unprotected hu, State.storeTarget]

/-- The low `n` bits of a word, zero-extended again, are the word masked to them (20_memory.md R68). -/
theorem zeroExtend_extractLsb'_zero (v : Word) {n : Nat} (hn : n ≤ 32) :
    (v.extractLsb' 0 n).zeroExtend 32 = v &&& BitVec.ofNat 32 (2 ^ n - 1) := by
  have hpow : 2 ^ n ≤ 2 ^ 32 := Nat.pow_le_pow_right (by decide) hn
  have hmod : v.toNat % 2 ^ n < 2 ^ n := Nat.mod_lt _ (by positivity)
  apply BitVec.eq_of_toNat_eq
  rw [BitVec.toNat_and, BitVec.toNat_ofNat, Nat.mod_eq_of_lt (a := 2 ^ n - 1) (by omega), Nat.and_two_pow_sub_one_eq_mod,
    BitVec.zeroExtend, BitVec.toNat_setWidth, BitVec.extractLsb'_toNat, Nat.shiftRight_zero,
    Nat.mod_eq_of_lt (hmod.trans_le hpow)]

/-- The registers that store their own bits, with those bits (20_memory.md R68). -/
def storedBits : List (Reg × Word) :=
  [(.irqEn, 0x3), (.slave, 0xFF), (.timeout, 0xFFFFFFFF), (.txfc, 0xFF), (.txlen, 0xFFFF), (.rxlen, 0x1FF),
    (.crcAcc, 0xFFFF)]

theorem State.readReg_storeReg {r : Reg} {mask : Word} (h : (r, mask) ∈ storedBits) (s : State) (v : Word) :
    (s.storeReg r v).readReg r = v &&& mask := by
  simp only [storedBits, List.mem_cons, List.not_mem_nil, or_false, Prod.mk.injEq] at h
  obtain ⟨rfl, rfl⟩ | ⟨rfl, rfl⟩ | ⟨rfl, rfl⟩ | ⟨rfl, rfl⟩ | ⟨rfl, rfl⟩ | ⟨rfl, rfl⟩ | ⟨rfl, rfl⟩ := h
  case inr.inr.inl => exact BitVec.and_allOnes.symm
  all_goals exact zeroExtend_extractLsb'_zero v (by decide)

/-- A store to one register leaves every other word of the host space, but for ENGINE's SLAVE_SET after one to SLAVE
(10_state.md R26, R34). -/
theorem State.readTarget_storeReg_of_ne (s : State) (v : Word) {r : Reg} {tgt : BusTarget} (h : tgt ≠ .reg r)
    (hslave : r = .slave → tgt ≠ .reg .engine) : (s.storeReg r v).readTarget tgt = s.readTarget tgt := by
  cases tgt with
  | txbuf i => cases r <;> rfl
  | rxbuf i => cases r <;> rfl
  | unmapped => rfl
  | reg q =>
    cases r with
    | cmd | txcrc | rxexp | rxcrc | engine | deadline => rfl
    | status => cases q with | status => exact absurd rfl h | _ => rfl
    | irqEn => cases q with | irqEn => exact absurd rfl h | _ => rfl
    | slave => cases q with | slave => exact absurd rfl h | engine => exact absurd rfl (hslave rfl) | _ => rfl
    | timeout => cases q with | timeout => exact absurd rfl h | _ => rfl
    | txfc => cases q with | txfc => exact absurd rfl h | _ => rfl
    | txlen => cases q with | txlen => exact absurd rfl h | _ => rfl
    | rxlen => cases q with | rxlen => exact absurd rfl h | _ => rfl
    | crcAcc => cases q with | crcAcc => exact absurd rfl h | _ => rfl

/-- Settles O44: an idle block stores the write, whose register reads back masked and whose other words stay; the five
read-only registers store nothing. -/
theorem registerWritesReadBack : Obligations.RegisterWritesReadBack := by
  intro s v
  refine ⟨fun hp r mask hmem => ?_, fun r hmem => ?_⟩
  · have hr : r ≠ .cmd := by rintro rfl; simp at hmem
    have henv := onStore_keepsEnvironment (.reg r) v s
    rw [onStore_of_idle hp] at henv
    refine ⟨s.storeReg r v, ?_, ?_, fun b hb hslave => State.readTarget_storeReg_of_ne s v hb hslave, ?_, henv.outputs,
      henv.inputs⟩
    · rw [handleEvent_hostWrite_offset hr, onStore_of_idle hp, State.storeTarget]
    · rw [State.busRead_offset]
      exact State.readReg_storeReg hmem s v
    · rintro rfl
      rfl
  · simp only [List.mem_cons, List.not_mem_nil, or_false] at hmem
    obtain rfl | rfl | rfl | rfl | rfl := hmem <;> exact handleEvent_hostWrite_unprotected (by decide) rfl v s

/-- Settles O46: STATUS is never protected, and its store is the acknowledgement. -/
theorem statusWriteOneToClear : Obligations.StatusWriteOneToClear := by
  intro s v
  have hclear (b flag : Bool) : (flag && !b) = if b then false else flag := by cases b <;> simp
  refine (handleEvent_hostWrite_unprotected (r := .status) (by decide) rfl v s).trans ?_
  simp only [State.storeReg, State.acknowledge, hclear]

/-! ### Fields of a word -/

/-- A byte at bit `n` of a host word. -/
def byteAt (c : Byte) (n : Nat) : Word :=
  c.zeroExtend 32 <<< n

theorem getLsbD_byteAt (c : Byte) (n i : Nat) :
    (byteAt c n).getLsbD i = (decide (i < 32) && !decide (i < n) && c.getLsbD (i - n)) := by
  rw [byteAt, BitVec.zeroExtend, BitVec.getLsbD_shiftLeft, BitVec.getLsbD_setWidth]
  by_cases hi : i < 32
  · simp [show i - n < 32 by omega]
  · simp [hi]

theorem getLsbD_bitAt (b : Bool) (n i : Nat) : (bitAt b n).getLsbD i = (decide (i < 32) && decide (i = n) && b) := by
  rw [bitAt, BitVec.zeroExtend, BitVec.getLsbD_shiftLeft, BitVec.getLsbD_setWidth, BitVec.getLsbD_ofBool]
  obtain hlt | rfl | hgt := lt_trichotomy i n
  · simp [hlt, hlt.ne]
  · simp
  · simp [hgt.ne', Nat.sub_ne_zero_of_lt hgt]

theorem extractLsb'_bitAt_of_outside (b : Bool) {n start len : Nat} (h : n < start ∨ start + len ≤ n) :
    (bitAt b n).extractLsb' start len = 0#len := by
  ext i hi
  have hne : start + i ≠ n := by omega
  simp [getLsbD_bitAt, hne]

theorem extractLsb'_byteAt_of_outside (c : Byte) {n start len : Nat} (h : n + 8 ≤ start ∨ start + len ≤ n) :
    (byteAt c n).extractLsb' start len = 0#len := by
  ext i hi
  rw [BitVec.getElem_extractLsb', getLsbD_byteAt, BitVec.getElem_zero]
  obtain h | h := h
  · have hout : 8 ≤ start + i - n := by omega
    simp [BitVec.getLsbD_of_ge _ _ hout]
  · have hout : start + i < n := by omega
    simp [hout]

theorem extractLsb'_byteAt (c : Byte) {n len : Nat} (hn : n + len ≤ 32) :
    (byteAt c n).extractLsb' n len = c.extractLsb' 0 len := by
  ext i hi
  have hlt : n + i < 32 := by omega
  rw [BitVec.getElem_extractLsb', getLsbD_byteAt, BitVec.getElem_extractLsb']
  simp [hlt]

/-! ### STATUS and ENGINE -/

theorem State.statusWord_eq (s : State) :
    s.statusWord = bitAt s.busy 0 ||| bitAt s.done 1 ||| bitAt s.link 2 ||| bitAt s.reject 3 ||| bitAt s.illegal 4 |||
      bitAt s.crcMatch 5 ||| bitAt s.excess 6 ||| bitAt s.fcMismatch 7 ||| bitAt s.fallback 8 ||| byteAt s.err.code 16 |||
      byteAt s.excCode 24 := rfl

theorem State.engineWord_eq (s : State) :
    s.engineWord = byteAt s.phase.code 0 ||| bitAt s.pendingStart 2 ||| bitAt s.slaveSet 3 ||| byteAt s.txpos 8 := by
  simp [engineWord, byteAt]

/-- The nine flags of STATUS, in the order of their bits (10_state.md R23). -/
theorem State.getLsbD_statusWord (s : State) {i : Nat} (hi : i < 9) :
    s.statusWord.getLsbD i =
      [s.busy, s.done, s.link, s.reject, s.illegal, s.crcMatch, s.excess, s.fcMismatch, s.fallback][i] := by
  rw [State.statusWord_eq]
  simp only [BitVec.getLsbD_or, getLsbD_bitAt, getLsbD_byteAt]
  interval_cases i <;> simp

/-- STATUS above its flags is its two bytes, ERR and EXC_CODE (R23). -/
theorem State.extractLsb'_statusWord (s : State) {start len : Nat} (h : 9 ≤ start) :
    s.statusWord.extractLsb' start len =
      (byteAt s.err.code 16).extractLsb' start len ||| (byteAt s.excCode 24).extractLsb' start len := by
  have hflag (b : Bool) {n : Nat} (hn : n < 9) : (bitAt b n).extractLsb' start len = 0#len :=
    extractLsb'_bitAt_of_outside b (.inl (hn.trans_le h))
  simp [State.statusWord_eq, BitVec.extractLsb'_or, hflag]

/-- Settles O47: the flags and the two bytes of `State.statusWord`. -/
theorem statusWordLayout : Obligations.StatusWordLayout := by
  intro s
  have hw : s.busRead 0x004 = s.statusWord := s.busRead_offset .status
  have hbusy : decide (s.phase ≠ .idle) = s.busy := by rw [Bool.eq_iff_iff, decide_eq_true_iff, s.busy_iff]
  have hgap : s.statusWord.extractLsb' 9 7 = 0 := by
    rw [s.extractLsb'_statusWord (by decide), extractLsb'_byteAt_of_outside _ (by decide),
      extractLsb'_byteAt_of_outside _ (by decide)]
    rfl
  have herr : s.statusWord.extractLsb' 16 8 = s.err.code := by
    rw [s.extractLsb'_statusWord (by decide), extractLsb'_byteAt _ (by decide), extractLsb'_byteAt_of_outside _ (by decide)]
    simp
  have hexc : s.statusWord.extractLsb' 24 8 = s.excCode := by
    rw [s.extractLsb'_statusWord (by decide), extractLsb'_byteAt _ (by decide), extractLsb'_byteAt_of_outside _ (by decide)]
    simp
  have hflag {i : Nat} (hi : i < 9) := s.getLsbD_statusWord hi
  rw [hw, hbusy]
  refine ⟨hflag (by decide), hflag (by decide), hflag (by decide), hflag (by decide), hflag (by decide), hflag (by decide),
    hflag (by decide), hflag (by decide), hflag (by decide), hgap, ?_, hexc, by decide⟩
  rw [herr]
  cases s.err <;> decide

/-- PHASE's code takes the bits 0 and 1 only (10_state.md R40). -/
theorem Phase.getLsbD_code (p : Phase) {i : Nat} (hi : 2 ≤ i) : p.code.getLsbD i = false := by
  have hcode : p.code.toNat < 2 ^ 2 := by cases p <;> decide
  exact Nat.testBit_lt_two_pow (hcode.trans_le (Nat.pow_le_pow_right (by decide) hi))

/-- PENDING_START and SLAVE_SET in ENGINE (10_state.md R34). -/
theorem State.getLsbD_engineWord (s : State) :
    s.engineWord.getLsbD 2 = s.pendingStart ∧ s.engineWord.getLsbD 3 = s.slaveSet := by
  have h2 : s.phase.code.getLsbD 2 = false := s.phase.getLsbD_code (by decide)
  have h3 : s.phase.code.getLsbD 3 = false := s.phase.getLsbD_code (by decide)
  simp only [State.engineWord_eq, BitVec.getLsbD_or, getLsbD_bitAt, getLsbD_byteAt, Nat.sub_zero, h2, h3]
  simp

/-- ENGINE above its flags is TXPOS (R34). -/
theorem State.extractLsb'_engineWord (s : State) {start len : Nat} (h : 4 ≤ start) :
    s.engineWord.extractLsb' start len = (byteAt s.txpos 8).extractLsb' start len := by
  have hflag (b : Bool) {n : Nat} (hn : n < 4) : (bitAt b n).extractLsb' start len = 0#len :=
    extractLsb'_bitAt_of_outside b (.inl (hn.trans_le h))
  have hphase : (byteAt s.phase.code 0).extractLsb' start len = 0#len := by
    ext i hi
    rw [BitVec.getElem_extractLsb', getLsbD_byteAt, Nat.sub_zero, s.phase.getLsbD_code (by omega), Bool.and_false,
      BitVec.getElem_zero]
  simp [State.engineWord_eq, BitVec.extractLsb'_or, hflag, hphase]

/-- The two low bits of ENGINE are PHASE's code (R34). -/
theorem State.extractLsb'_engineWord_zero (s : State) : s.engineWord.extractLsb' 0 2 = s.phase.code.extractLsb' 0 2 := by
  rw [State.engineWord_eq, BitVec.extractLsb'_or, BitVec.extractLsb'_or, BitVec.extractLsb'_or,
    extractLsb'_byteAt _ (by decide), extractLsb'_bitAt_of_outside _ (by decide), extractLsb'_bitAt_of_outside _ (by decide),
    extractLsb'_byteAt_of_outside _ (by decide)]
  simp

/-- Settles O48: the fields of `State.engineWord`, and a store to ENGINE is none. -/
theorem engineWordLayout : Obligations.EngineWordLayout := by
  intro s v
  have hw : s.busRead 0x030 = s.engineWord := s.busRead_offset .engine
  obtain ⟨hpend, hslave⟩ := s.getLsbD_engineWord
  rw [hw]
  refine ⟨?_, hpend, hslave, ?_, ?_, ?_, handleEvent_hostWrite_unprotected (r := .engine) (by decide) rfl v s⟩
  · rw [s.extractLsb'_engineWord_zero]
    cases s.phase <;> decide
  · rw [s.extractLsb'_engineWord (by decide), extractLsb'_byteAt_of_outside _ (by decide)]
    rfl
  · rw [s.extractLsb'_engineWord (by decide), extractLsb'_byteAt _ (by decide), BitVec.extractLsb'_eq_self]
  · rw [s.extractLsb'_engineWord (by decide), extractLsb'_byteAt_of_outside _ (by decide)]
    rfl

end Sys2Proof.Machine
end

section
/-! PROOFS. The address map as arithmetic (20_memory.md R60 to R66), and what a host read and a host write do at an address of
any kind (R61 to R70). -/

namespace Sys2Proof.Machine

/-! ### Addresses as numbers -/

/-- The word of an address is the address rounded down to a multiple of 4 (20_memory.md R62). -/
theorem toNat_wordAddr (a : HostAddr) : (wordAddr a).toNat = 4 * (a.toNat / 4) := by
  have hword : (wordAddr a).extractLsb' 2 10 = a.extractLsb' 2 10 := by
    rw [wordAddr, BitVec.extractLsb'_and]
    exact BitVec.and_allOnes
  have hlow : (wordAddr a).extractLsb' 0 2 = 0 := by
    rw [wordAddr, BitVec.extractLsb'_and]
    exact BitVec.and_zero
  have hdiv : (wordAddr a).toNat / 4 % 1024 = a.toNat / 4 % 1024 := by
    simpa [Nat.shiftRight_eq_div_pow] using congrArg BitVec.toNat hword
  have hmod : (wordAddr a).toNat % 4 = 0 := by simpa using congrArg BitVec.toNat hlow
  have ha := a.isLt
  have hw := (wordAddr a).isLt
  omega

/-- Bits 11:10 of an address, which tell registers, TXBUF and RXBUF apart (20_memory.md R64). -/
theorem extractLsb'_ten_eq_iff (a : HostAddr) (k : BitVec 2) : a.extractLsb' 10 2 = k ↔ a.toNat / 1024 = k.toNat := by
  have ha := a.isLt
  rw [← BitVec.toNat_inj, BitVec.extractLsb'_toNat, Nat.shiftRight_eq_div_pow, Nat.mod_eq_of_lt (by omega)]

theorem bufferIndex_eq (a : HostAddr) : bufferIndex a = a.toNat / 4 % 256 := by
  rw [bufferIndex, BitVec.extractLsb'_toNat, Nat.shiftRight_eq_div_pow]

/-- Every address from 0x400 to 0xBFF is a buffer entry's (20_memory.md R64). -/
theorem busTarget_of_buffer_range {a : HostAddr} (hlo : 0x400 ≤ a.toNat) (hhi : a.toNat < 0xC00) :
    busTarget a = .txbuf (bufferIndex a) ∨ busTarget a = .rxbuf (bufferIndex a) := by
  have hbase : a.toNat / 1024 = 1 ∨ a.toNat / 1024 = 2 := by omega
  obtain h | h := hbase
  · exact .inl (if_pos ((extractLsb'_ten_eq_iff a 1).mpr h))
  · have hne : a.extractLsb' 10 2 ≠ 1#2 := by simp [extractLsb'_ten_eq_iff, h]
    exact .inr ((if_neg hne).trans (if_pos ((extractLsb'_ten_eq_iff a 2).mpr h)))

theorem Reg.toNat_offset_le (r : Reg) : r.offset.toNat ≤ 0x034 := by
  cases r <;> decide

/-- No register has its offset above 0x034 (10_state.md R21). -/
theorem regAt_eq_none {a : HostAddr} (h : 0x034 < a.toNat) : regAt a = none := by
  refine List.find?_eq_none.mpr fun r _ hr => ?_
  have hle := r.toNat_offset_le
  rw [eq_of_beq hr] at hle
  omega

/-- The unmapped addresses (20_memory.md R64, R65). -/
theorem busTarget_of_unmapped_range {a : HostAddr} (h : (0x038 ≤ a.toNat ∧ a.toNat < 0x400) ∨ 0xC00 ≤ a.toNat) :
    busTarget a = .unmapped := by
  have ha := a.isLt
  have hbase : a.toNat / 1024 = 0 ∨ a.toNat / 1024 = 3 := by omega
  have htx : a.extractLsb' 10 2 ≠ 1#2 := mt (extractLsb'_ten_eq_iff a 1#2).mp (by rw [BitVec.toNat_ofNat]; omega)
  have hrx : a.extractLsb' 10 2 ≠ 2#2 := mt (extractLsb'_ten_eq_iff a 2#2).mp (by rw [BitVec.toNat_ofNat]; omega)
  have hreg : regAt (wordAddr a) = none := regAt_eq_none (by rw [toNat_wordAddr]; omega)
  rw [busTarget, if_neg htx, if_neg hrx, hreg]

/-- A mapped address stands in the word that the map gives its target (20_memory.md R64). -/
theorem addr_busTarget {a : HostAddr} (h : busTarget a ≠ .unmapped) : (busTarget a).addr = some (wordAddr a) := by
  have ha := a.isLt
  have hindex := bufferIndex_eq a
  have hlt := bufferIndex_lt a
  have hword {base : Nat} (hbase : 4 * (a.toNat / 4) = base + 4 * bufferIndex a) :
      BitVec.ofNat 12 (base + 4 * bufferIndex a) = wordAddr a := by
    rw [← hbase, ← toNat_wordAddr, BitVec.ofNat_toNat, BitVec.setWidth_eq]
  unfold busTarget at h ⊢
  split_ifs at h ⊢ with htx hrx
  · have hq : a.toNat / 1024 = 1 := (extractLsb'_ten_eq_iff a 1).mp htx
    rw [BusTarget.addr, if_pos hlt, hword (by omega)]
  · have hq : a.toNat / 1024 = 2 := (extractLsb'_ten_eq_iff a 2).mp hrx
    rw [BusTarget.addr, if_pos hlt, hword (by omega)]
  · cases hr : regAt (wordAddr a) with
    | some r =>
      have hoff : r.offset = wordAddr a := by simpa using List.find?_some hr
      exact congrArg some hoff
    | none => simp [hr] at h

/-- An address outside a mapped target's word does not reach that target. -/
theorem busTarget_ne_of_wordAddr_ne {a b : HostAddr} {tgt : BusTarget} (ht : tgt.addr = some a) (hb : wordAddr b ≠ a) :
    busTarget b ≠ tgt := by
  rintro rfl
  have hmapped : busTarget b ≠ .unmapped := fun hu => by simp [hu, BusTarget.addr] at ht
  rw [addr_busTarget hmapped] at ht
  exact hb (Option.some.inj ht)

/-! ### Host reads -/

theorem handleEvent_hostRead (a : HostAddr) (s : State) :
    handleEvent (.hostRead a) s = .next (s.emit (.readData (s.busRead a))) := rfl

/-- The answer that a read emits is no word of the host space (20_memory.md R67). -/
@[simp] theorem State.busRead_emit (s : State) (o : Output) (a : HostAddr) : (s.emit o).busRead a = s.busRead a := by
  unfold State.busRead
  cases busTarget a with
  | reg r => cases r <;> rfl
  | txbuf | rxbuf | unmapped => rfl

/-! ### Host writes -/

theorem handleEvent_hostWrite_cmd {a : HostAddr} (h : busTarget a = .reg .cmd) (v : Word) (s : State) :
    handleEvent (.hostWrite a v) s = writeCmd v s := by
  obtain ⟨-, hw⟩ | ⟨hne, -⟩ := onHostWrite_cases a v s
  · exact hw
  · exact absurd h hne

theorem handleEvent_hostWrite_store {a : HostAddr} (h : busTarget a ≠ .reg .cmd) (v : Word) (s : State) :
    handleEvent (.hostWrite a v) s = .next (onStore (busTarget a) v s) := by
  obtain ⟨hcmd, -⟩ | ⟨-, hw⟩ := onHostWrite_cases a v s
  · exact absurd hcmd h
  · exact hw

/-- While BUSY a write to a protected target only sets REJECT (20_memory.md R69). -/
theorem handleEvent_hostWrite_protected {a : HostAddr} (h : (busTarget a).isProtected = true) {s : State}
    (hp : s.phase ≠ .idle) (v : Word) : handleEvent (.hostWrite a v) s = .next s.markReject := by
  have hcmd : busTarget a ≠ .reg .cmd := fun hc => by simp [hc, BusTarget.isProtected] at h
  have hbusy : s.busy = true := s.busy_iff.mpr hp
  rw [handleEvent_hostWrite_store hcmd, onStore, hbusy, h]
  rfl

/-- While IDLE every write to anything but CMD is a store (20_memory.md R69). -/
theorem handleEvent_hostWrite_of_idle {a : HostAddr} {tgt : BusTarget} (ha : busTarget a = tgt) (ht : tgt ≠ .reg .cmd)
    {s : State} (hp : s.phase = .idle) (v : Word) : handleEvent (.hostWrite a v) s = .next (s.storeTarget tgt v) := by
  rw [handleEvent_hostWrite_store (ha ▸ ht), ha, onStore_of_idle hp]

/-- A write at any address of a register's word, which no phase refuses, is a store to the register (20_memory.md R62, R69). -/
theorem handleEvent_hostWrite_word {a : HostAddr} {r : Reg} (ha : wordAddr a = r.offset) (hr : r ≠ .cmd)
    (hu : BusTarget.isProtected (.reg r) = false) (v : Word) (s : State) :
    handleEvent (.hostWrite a v) s = .next (s.storeReg r v) := by
  have htgt : busTarget a = .reg r := busTarget_of_wordAddr ha
  rw [handleEvent_hostWrite_store (by simpa [htgt] using hr), htgt, onStore_of_unprotected hu, State.storeTarget]

/-- A write reads its address only through the target. -/
theorem handleEvent_hostWrite_congr {a b : HostAddr} (h : busTarget a = busTarget b) (v : Word) (s : State) :
    handleEvent (.hostWrite a v) s = handleEvent (.hostWrite b v) s := by
  by_cases hb : busTarget b = .reg .cmd
  · rw [handleEvent_hostWrite_cmd hb, handleEvent_hostWrite_cmd (h.trans hb)]
  · rw [handleEvent_hostWrite_store hb, handleEvent_hostWrite_store (h ▸ hb), h]

/-- No host write stops the block (20_memory.md R62). -/
theorem handleEvent_hostWrite_answers_next (a : HostAddr) (v : Word) (s : State) :
    ∃ t, handleEvent (.hostWrite a v) s = .next t := by
  by_cases ha : busTarget a = .reg .cmd
  · rw [handleEvent_hostWrite_cmd ha]
    obtain ⟨i, -, hw⟩ | ⟨-, hw⟩ := writeCmd_next v s <;> rw [hw]
    · exact exec_answers_next i s
    · exact ⟨_, rfl⟩
  · exact ⟨_, handleEvent_hostWrite_store ha v s⟩

/-! ### Buffer entries -/

theorem State.readTarget_writeTx_same (s : State) (i : Nat) (b : Byte) :
    (s.writeTx i b).readTarget (.txbuf i) = b.zeroExtend 32 := by
  simp [State.readTarget]

theorem State.readTarget_writeRx_same (s : State) (i : Nat) (b : Byte) :
    (s.writeRx i b).readTarget (.rxbuf i) = b.zeroExtend 32 := by
  simp [State.readTarget]

/-- A write to an entry of TXBUF leaves every other target's value. -/
theorem State.readTarget_writeTx_of_ne (s : State) {i : Nat} (b : Byte) {tgt : BusTarget} (h : tgt ≠ .txbuf i) :
    (s.writeTx i b).readTarget tgt = s.readTarget tgt := by
  cases tgt with
  | reg r => cases r <;> rfl
  | txbuf k =>
    have hk : k ≠ i := fun hk => h (congrArg _ hk)
    simp [State.readTarget, hk]
  | rxbuf | unmapped => rfl

/-- A write to an entry of RXBUF leaves every other target's value. -/
theorem State.readTarget_writeRx_of_ne (s : State) {i : Nat} (b : Byte) {tgt : BusTarget} (h : tgt ≠ .rxbuf i) :
    (s.writeRx i b).readTarget tgt = s.readTarget tgt := by
  cases tgt with
  | reg r => cases r <;> rfl
  | rxbuf k =>
    have hk : k ≠ i := fun hk => h (congrArg _ hk)
    simp [State.readTarget, hk]
  | txbuf | unmapped => rfl

/-! ### The obligations -/

/-- Settles O40: the targets of the first clause are protected; CMD's word reaches the decoder, and the others are never
refused. -/
theorem protectedWritesRefusedWhileBusy : Obligations.ProtectedWritesRefusedWhileBusy := by
  intro s a v hp
  refine ⟨fun ha => handleEvent_hostWrite_protected ?_ hp v,
    fun ha => handleEvent_hostWrite_cmd (busTarget_of_wordAddr ha) v s,
    fun ha => handleEvent_hostWrite_word (r := .status) ha (by decide) rfl v s,
    fun ha => handleEvent_hostWrite_word (r := .irqEn) ha (by decide) rfl v s,
    fun ha => handleEvent_hostWrite_word (r := .timeout) ha (by decide) rfl v s,
    fun ha => handleEvent_hostWrite_word (r := .crcAcc) ha (by decide) rfl v s⟩
  obtain ha | ha | ha | ha | ⟨hlo, hhi⟩ := ha
  · rw [busTarget_of_wordAddr (r := .slave) ha]; rfl
  · rw [busTarget_of_wordAddr (r := .txfc) ha]; rfl
  · rw [busTarget_of_wordAddr (r := .txlen) ha]; rfl
  · rw [busTarget_of_wordAddr (r := .rxlen) ha]; rfl
  · obtain h | h := busTarget_of_buffer_range hlo hhi <;> rw [h] <;> rfl

/-- Settles O41: both accesses read their address only through its target, which is its word's. -/
theorem lowAddressBitsIgnored : Obligations.LowAddressBitsIgnored := by
  intro s a v
  have htgt : busTarget a = busTarget (a &&& ~~~3) := (busTarget_wordAddr a).symm
  refine ⟨?_, handleEvent_hostWrite_congr htgt v s, ⟨_, handleEvent_hostRead a s⟩, handleEvent_hostWrite_answers_next a v s⟩
  rw [handleEvent_hostRead, handleEvent_hostRead, State.busRead, State.busRead, htgt]

/-- Settles O45: the buffer words' targets are the entries, and a store to an entry leaves every other target. -/
theorem bufferWordFormat : Obligations.BufferWordFormat := by
  intro s i v hi
  have htx := busTarget_txbuf i hi
  have hrx := busTarget_rxbuf i hi
  refine ⟨by rw [State.busRead, htx]; rfl, by rw [State.busRead, hrx]; rfl, fun hp =>
    ⟨_, _, handleEvent_hostWrite_of_idle htx (by simp) hp v, ?_, fun b hb => ?_, rfl,
      handleEvent_hostWrite_of_idle hrx (by simp) hp v, ?_, fun b hb => ?_, rfl⟩⟩
  · rw [State.busRead, htx, State.storeTarget, State.readTarget_writeTx_same]
    exact zeroExtend_extractLsb'_zero v (by decide)
  · exact s.readTarget_writeTx_of_ne _ (busTarget_ne_of_wordAddr_ne (if_pos hi) hb)
  · rw [State.busRead, hrx, State.storeTarget, State.readTarget_writeRx_same]
    exact zeroExtend_extractLsb'_zero v (by decide)
  · exact s.readTarget_writeRx_of_ne _ (busTarget_ne_of_wordAddr_ne (if_pos hi) hb)

/-- Settles O42: both ranges are unmapped. -/
theorem unmappedWordsAreInert : Obligations.UnmappedWordsAreInert := by
  intro s a v ha
  have htgt := busTarget_of_unmapped_range ha
  refine ⟨?_, ?_⟩
  · rw [handleEvent_hostRead, State.busRead, htgt]
    rfl
  · rw [handleEvent_hostWrite_store (by simp [htgt]), htgt, onStore_of_unprotected rfl, State.storeTarget]

/-- Settles O43: a read emits its answer only, and each register's word reads as `State.readReg` gives it. -/
theorem readsChangeNothing : Obligations.ReadsChangeNothing := by
  intro s a
  exact ⟨_, handleEvent_hostRead a s, rfl, s.busRead_emit _, s.busRead_offset .cmd, s.busRead_offset .irqEn,
    s.busRead_offset .slave, s.busRead_offset .timeout, s.busRead_offset .txfc, s.busRead_offset .txlen,
    s.busRead_offset .txcrc, s.busRead_offset .rxlen, s.busRead_offset .rxexp, s.busRead_offset .rxcrc,
    s.busRead_offset .crcAcc, s.busRead_offset .deadline⟩

end Sys2Proof.Machine
end

section
/-! PROOFS. The request on the wire (42_codec.md R140, 43_transport.md R176): txByte lists txFrame, and the TxPulls of a whole
frame hand it over in order. -/

namespace Sys2Proof.Machine

/-! ### The frame, byte by byte -/

/-- The frame is what txByte gives at its positions, from the first to the last (42_codec.md R140). -/
theorem State.txFrame_eq_map_txByte (s : State) : s.txFrame = (List.range (s.txlen.toNat + 4)).map s.txByte := by
  have hdata : (List.range s.txlen.toNat).map (fun i => s.txByte (i + 2)) = s.txBytes s.txlen.toNat := by
    refine List.map_congr_left fun i hi => ?_
    have hle : i + 2 ≤ s.txlen.toNat + 1 := Nat.add_le_add_right (List.mem_range.mp hi) 1
    rw [State.txByte, if_neg (by omega), if_neg (by omega), if_pos hle, Nat.add_sub_cancel]
  have hslave : s.txByte 0 = s.slave := rfl
  have hfc : s.txByte 1 = s.txfc := rfl
  have hlow : s.txByte (s.txlen.toNat + 2) = crcLow s.txcrc := by simp [State.txByte]
  have hhigh : s.txByte (s.txlen.toNat + 3) = crcHigh s.txcrc := by simp [State.txByte]
  have hrange : List.range (s.txlen.toNat + 4) =
      0 :: 1 :: ((List.range s.txlen.toNat).map (· + 2) ++ [s.txlen.toNat + 2, s.txlen.toNat + 3]) := by
    rw [List.range_succ_eq_map, List.range_succ_eq_map, List.range_succ, List.range_succ]
    simp [Function.comp_def]
  rw [State.txFrame, State.txBody, hrange, ← hdata]
  simp [hslave, hfc, hlow, hhigh, crcWire, Function.comp_def]

@[simp] theorem State.length_txFrame (s : State) : s.txFrame.length = s.txlen.toNat + 4 := by
  simp [State.txFrame_eq_map_txByte]

/-- The frame from position `p` on begins with txByte(p). -/
theorem State.drop_txFrame {s : State} {p : Nat} (h : p < s.txlen.toNat + 4) :
    s.txFrame.drop p = s.txByte p :: s.txFrame.drop (p + 1) := by
  rw [List.drop_eq_getElem_cons (by simpa using h)]
  simp [State.txFrame_eq_map_txByte]

/-! ### TxPull -/

/-- A TxPull before the last byte hands one over and moves TXPOS on (43_transport.md R176). -/
theorem handleEvent_txPull_of_lt {s : State} (hp : s.phase = .tx) (hn : s.txlen.toNat ≤ Config.maxData)
    (hpos : s.txpos.toNat < s.txlen.toNat + 3) :
    handleEvent .txPull s =
      .next { s with outputs := s.outputs ++ [.txByte (s.txByte s.txpos.toNat)], txpos := s.txpos + 1 } := by
  have hframe : s.txInFrame = true := by simp [State.txInFrame, hn, hpos.le]
  simp [handleEvent, onTxPull, hp, hframe, State.advanceTx, hpos.ne, State.emit]

/-- The TxPull of the last byte opens RX (43_transport.md R176). -/
theorem handleEvent_txPull_of_last {s : State} (hp : s.phase = .tx) (hn : s.txlen.toNat ≤ Config.maxData)
    (hpos : s.txpos.toNat = s.txlen.toNat + 3) :
    handleEvent .txPull s =
      .next { s with outputs := s.outputs ++ [.txByte (s.txByte s.txpos.toNat)], phase := .rx } := by
  have hframe : s.txInFrame = true := by simp [State.txInFrame, hn, hpos]
  simp [handleEvent, onTxPull, hp, hframe, State.advanceTx, hpos, State.emit]

/-- In a run, a TxPull before the last byte leaves the run of the other events from the next position. -/
theorem State.runEvents_txPull_of_lt {s : State} (hp : s.phase = .tx) (hn : s.txlen.toNat ≤ Config.maxData)
    (hpos : s.txpos.toNat < s.txlen.toNat + 3) (es : List Event) :
    s.runEvents (.txPull :: es) = State.runEvents { s with
      outputs := s.outputs ++ [.txByte (s.txByte s.txpos.toNat)], txpos := s.txpos + 1 } es :=
  (runEvents_cons (handleEvent_txPull_of_lt (s := { s with inputs := es }) hp hn hpos) rfl).trans rfl

/-- From any position in TX, as many TxPulls as there are bytes left hand over the rest of the frame and end in RX. -/
theorem State.runEvents_txPulls (k : Nat) {s : State} (hp : s.phase = .tx) (hn : s.txlen.toNat ≤ Config.maxData)
    (hk : s.txpos.toNat + k = s.txlen.toNat + 3) :
    s.runEvents (List.replicate (k + 1) .txPull) = .next { s with
      inputs := []
      outputs := s.outputs ++ (s.txFrame.drop s.txpos.toNat).map Output.txByte
      txpos := BitVec.ofNat 8 (s.txlen.toNat + 3)
      phase := .rx } := by
  induction k generalizing s with
  | zero =>
    have hrest : s.txFrame.drop s.txpos.toNat = [s.txByte s.txpos.toNat] := by
      rw [State.drop_txFrame (by omega), List.drop_eq_nil_of_le (by rw [State.length_txFrame]; omega)]
    have hlast : BitVec.ofNat 8 (s.txlen.toNat + 3) = s.txpos := by rw [← hk]; simp
    rw [hrest, hlast]
    exact runEvents_cons (handleEvent_txPull_of_last (s := { s with inputs := [] }) hp hn hk) rfl
  | succ k ih =>
    have hlt : s.txpos.toNat < s.txlen.toNat + 3 := by omega
    have hmax : s.txlen.toNat ≤ 252 := hn
    have hpos : (s.txpos + 1).toNat = s.txpos.toNat + 1 := BitVec.toNat_add_of_lt (by simp; omega)
    have hcount : (s.txpos + 1).toNat + k = s.txlen.toNat + 3 := by omega
    have hout : s.outputs ++ (s.txFrame.drop s.txpos.toNat).map Output.txByte =
        s.outputs ++ [.txByte (s.txByte s.txpos.toNat)] ++ (s.txFrame.drop (s.txpos + 1).toNat).map Output.txByte := by
      rw [State.drop_txFrame (by omega), hpos, List.map_cons, List.append_cons]
    rw [List.replicate_succ, State.runEvents_txPull_of_lt hp hn hlt, hout]
    exact (ih (by exact hp) (by exact hn) (by exact hcount)).trans rfl

/-- Settles O30: at TXPOS = 0 the rest of the frame is the frame. -/
theorem wholeRequestSentInOrder : Obligations.WholeRequestSentInOrder := by
  intro s hp hpos hn
  simpa [hpos] using s.runEvents_txPulls (s.txlen.toNat + 3) hp hn (by simp [hpos])

end Sys2Proof.Machine
end

section
/-! PROOFS. The two directions of the encoding (30_encoding.md R80 to R84): a word decodes to a command exactly when it has the
command's fields (`decode_eq_ok_iff`), and well-formed fields are always some command's. -/

namespace Sys2Proof

/-! ### The rows of the opcode map -/

/-- A row without an immediate hits the encoding of its command only. -/
theorem encode_eq_of_hits_fixed {i : Instr} {p w : Word} (hp : encode i = p)
    (h : OpRow.hits ⟨p, 0xFFFFFFFF, fun _ => i⟩ w = true) : encode i = w := by
  have hmask : w &&& 0xFFFFFFFF = p := eq_of_beq h
  have hones : w &&& 0xFFFFFFFF = w := BitVec.and_allOnes
  rw [hp, ← hmask, hones]

/-- The row CRC_BYTE hits only words with OP = 0x02 and H = 0 (R82, R83). -/
theorem fields_of_hits_crcByte {w : Word}
    (h : OpRow.hits ⟨0x00000002, 0xFFFF00FF, fun w => .crcByte (immB w)⟩ w = true) : wordFields w = ⟨0x02, immB w, 0⟩ := by
  simp only [OpRow.hits_eq, Bool.and_eq_true, beq_iff_eq] at h
  obtain ⟨hop, -, hh⟩ := h
  have hop : opField w = 0x02 := BitVec.and_allOnes.symm.trans hop
  have hh : immH w = 0 := BitVec.and_allOnes.symm.trans hh
  rw [wordFields, hop, hh]

/-- The row CRC_VERIFY hits only words with OP = 0x03 and B = 0 (R82, R83). -/
theorem fields_of_hits_crcVerify {w : Word}
    (h : OpRow.hits ⟨0x00000003, 0x0000FFFF, fun w => .crcVerify (immH w)⟩ w = true) : wordFields w = ⟨0x03, 0, immH w⟩ := by
  simp only [OpRow.hits_eq, Bool.and_eq_true, beq_iff_eq] at h
  obtain ⟨hop, hb, -⟩ := h
  have hop : opField w = 0x03 := BitVec.and_allOnes.symm.trans hop
  have hb : immB w = 0 := BitVec.and_allOnes.symm.trans hb
  rw [wordFields, hop, hb]

/-- What a row builds from a word that it hits encodes to that word. -/
theorem encode_build_of_hits {r : OpRow} (hr : r ∈ opTable) {w : Word} (h : r.hits w = true) : encode (r.build w) = w := by
  simp only [opTable, List.mem_cons, List.not_mem_nil, or_false] at hr
  obtain rfl | rfl | rfl | rfl | rfl | rfl | rfl | rfl | rfl := hr
  case inr.inr.inl => exact wordFields_injective ((wordFields_append _ _ _).trans (fields_of_hits_crcByte h).symm)
  case inr.inr.inr.inl => exact wordFields_injective ((wordFields_append _ _ _).trans (fields_of_hits_crcVerify h).symm)
  all_goals exact encode_eq_of_hits_fixed rfl h

/-- Every row reads the whole of OP, so it hits words with its own opcode only (R82). -/
theorem opField_of_hits {r : OpRow} (hr : r ∈ opTable) {w : Word} (h : r.hits w = true) : opField w = opField r.pattern := by
  have hmask : ∀ q ∈ opTable, opField q.mask = BitVec.allOnes 8 := by
    simp only [opTable]
    decide
  rw [OpRow.hits_eq, hmask r hr, BitVec.and_allOnes, Bool.and_eq_true] at h
  exact eq_of_beq h.1

theorem opcodes_distinct : opTable.Pairwise fun r q => opField r.pattern ≠ opField q.pattern := by
  simp only [opTable]
  decide

/-! ### Words and commands -/

theorem encode_of_decode {w : Word} {i : Instr} (h : decode w = .ok i) : encode i = w := by
  unfold decode at h
  split at h
  next r hr =>
    cases h
    exact encode_build_of_hits (List.mem_of_find?_eq_some hr) (List.find?_some (p := (OpRow.hits · w)) hr)
  next => cases h

theorem wordCarriesFields (i : Instr) : Laws.WordCarriesFields.Statement i := by
  cases i with
  | nop => exact Laws.WordCarriesFields.nop
  | crcInit => exact Laws.WordCarriesFields.crcInit
  | crcByte b => exact Laws.WordCarriesFields.crcByte b
  | crcVerify h => exact Laws.WordCarriesFields.crcVerify h
  | encode => exact Laws.WordCarriesFields.encode
  | decode => exact Laws.WordCarriesFields.decode
  | start => exact Laws.WordCarriesFields.start
  | connect => exact Laws.WordCarriesFields.connect
  | close => exact Laws.WordCarriesFields.close

@[simp] theorem wordFields_encode (i : Instr) : wordFields (encode i) = i.fields :=
  (wordCarriesFields i).1

/-- A word is a command exactly when it has the command's fields (R82, R83). -/
theorem decode_eq_ok_iff {w : Word} {i : Instr} : decode w = .ok i ↔ wordFields w = i.fields := by
  constructor
  · intro h
    rw [← encode_of_decode h, wordFields_encode]
  · intro h
    have hw : w = encode i := wordFields_injective (h.trans (wordFields_encode i).symm)
    rw [hw, decode_encode]

/-- Well-formed fields are those of a command (R82, R83). -/
theorem CommandFields.exists_instr {f : CommandFields} (hf : f.wellFormed = true) : ∃ i : Instr, i.fields = f := by
  obtain ⟨op, b, h⟩ := f
  simp only [wellFormed, opKnown, bAllowed, hAllowed, Bool.and_eq_true, Bool.or_eq_true, beq_iff_eq, decide_eq_true_eq,
    List.mem_cons, List.not_mem_nil, or_false] at hf
  obtain ⟨⟨hop, hb⟩, hh⟩ := hf
  have hzero (h2 : op ≠ 0x02) (h3 : op ≠ 0x03) : (⟨op, 0, 0⟩ : CommandFields) = ⟨op, b, h⟩ := by
    rw [hb.resolve_right h2, hh.resolve_right h3]
    rfl
  obtain rfl | rfl | rfl | rfl | rfl | rfl | rfl | rfl | rfl := hop
  · exact ⟨.nop, hzero (by decide) (by decide)⟩
  · exact ⟨.crcInit, hzero (by decide) (by decide)⟩
  · obtain rfl := hh.resolve_right (by decide)
    exact ⟨.crcByte b, rfl⟩
  · obtain rfl := hb.resolve_right (by decide)
    exact ⟨.crcVerify h, rfl⟩
  · exact ⟨.encode, hzero (by decide) (by decide)⟩
  · exact ⟨.decode, hzero (by decide) (by decide)⟩
  · exact ⟨.start, hzero (by decide) (by decide)⟩
  · exact ⟨.connect, hzero (by decide) (by decide)⟩
  · exact ⟨.close, hzero (by decide) (by decide)⟩

/-- The decoder accepts exactly the words with well-formed fields (R83). -/
theorem exists_decode_eq_ok_iff {w : Word} : (∃ i, decode w = .ok i) ↔ (wordFields w).wellFormed = true := by
  simp only [decode_eq_ok_iff]
  constructor
  · rintro ⟨i, hi⟩
    rw [hi]
    exact (wordCarriesFields i).2
  · intro hf
    obtain ⟨i, hi⟩ := CommandFields.exists_instr hf
    exact ⟨i, hi.symm⟩

/-- The decoder refuses exactly the words with ill-formed fields (R83). -/
theorem exists_decode_eq_error_iff {w : Word} : (∃ r, decode w = .error r) ↔ (wordFields w).wellFormed = false := by
  rw [← Bool.not_eq_true, ← exists_decode_eq_ok_iff]
  cases decode w <;> simp

end Sys2Proof

namespace Sys2Proof.Machine

/-- A reserved word written to CMD only sets ILLEGAL (R84). -/
theorem writeCmd_of_reserved {v : Word} (h : ∃ r, decode v = .error r) (s : State) : writeCmd v s = .next s.markIllegal := by
  obtain ⟨r, hr⟩ := h
  rw [writeCmd, hr]

/-- Settles O1: every command round-trips, its field widths being those of its immediates. -/
theorem decodeOfEncodeIsTheCommand : Obligations.DecodeOfEncodeIsTheCommand :=
  fun i _ => decode_encode i

/-- Settles O2: the row that a word hits builds a command with that word. -/
theorem encodeOfDecodeIsTheWord : Obligations.EncodeOfDecodeIsTheWord :=
  fun _ _ => encode_of_decode

/-- Settles O3: a word is refused when no command has its fields, and any address of CMD's word reaches the decoder. -/
theorem reservedWordsOnlyFlagIllegal : Obligations.ReservedWordsOnlyFlagIllegal := by
  intro w a s
  refine ⟨exists_decode_eq_error_iff, fun ha hf => ?_⟩
  have hcmd : busTarget a = .reg .cmd := busTarget_of_wordAddr ha
  rw [handleEvent_hostWrite_cmd hcmd, writeCmd_of_reserved (exists_decode_eq_error_iff.mpr hf), State.markIllegal]

/-- Settles O4: two rows that hit one word would have one opcode. -/
theorem atMostOneRowMatches : Obligations.AtMostOneRowMatches := by
  intro w
  have hop {r : OpRow} (hr : r ∈ opTable.filter (·.hits w)) : opField w = opField r.pattern :=
    opField_of_hits (List.mem_filter.mp hr).1 (List.mem_filter.mp hr).2
  have hdistinct := opcodes_distinct.filter (·.hits w)
  generalize opTable.filter (·.hits w) = rows at hop hdistinct ⊢
  match rows with
  | [] | [_] => simp
  | r :: q :: _ =>
    have hne : opField r.pattern ≠ opField q.pattern := (List.pairwise_cons.mp hdistinct).1 q (by simp)
    exact absurd ((hop (by simp)).symm.trans (hop (by simp))) hne

/-- Settles O5: each word, written out, is its command's encoding. -/
theorem writtenOutWordsDecode : Obligations.WrittenOutWordsDecode :=
  ⟨decode_encode .nop, decode_encode .crcInit, decode_encode (.crcByte 0xC4), decode_encode (.crcVerify 0x0BC4),
    decode_encode .encode, decode_encode .decode, decode_encode .start, decode_encode .connect, decode_encode .close⟩

end Sys2Proof.Machine
end

section
/-! PROOFS. The CRC16-Modbus function (40_crc.md R100 to R111): the step by table, the residue of a sequence that carries its
own CRC, and the detection of every changed byte. All three rest on the laws of Laws/Crc.lean: a step is linear over XOR and
loses nothing. -/

namespace Sys2Proof.Machine

/-! ### The step by table -/

/-- Shift steps on a value whose low bits are 0 only shift. -/
theorem crcShifts_eq_ushiftRight (n : Nat) {a : Half} (h : ∀ i < n, a.getLsbD i = false) : crcShifts n a = a >>> n := by
  induction n generalizing a with
  | zero => simp [crcShifts]
  | succ k ih =>
    have hshift : crcShift a = a >>> 1 := by rw [crcShift, h 0 k.succ_pos]; rfl
    have hlow : ∀ i < k, (a >>> 1).getLsbD i = false := fun i hi => by
      rw [BitVec.getLsbD_ushiftRight]
      exact h (1 + i) (by omega)
    rw [crcShifts, hshift, ih hlow, ← BitVec.shiftRight_add, Nat.add_comm]

theorem ushiftRight_eq_crcHigh (a : Half) : a >>> 8 = (crcHigh a).zeroExtend 16 := by
  apply BitVec.eq_of_getLsbD_eq
  intro i hi
  by_cases h : i < 8
  · simp [crcHigh, h, hi]
  · simp [crcHigh, h, BitVec.getLsbD_of_ge a (8 + i) (by omega)]

/-- A CRC value is its high byte, in place, and its low byte. -/
theorem eq_high_xor_low (a : Half) : a = (a >>> 8 <<< 8) ^^^ (crcLow a).zeroExtend 16 := by
  apply BitVec.eq_of_getLsbD_eq
  intro i hi
  by_cases h : i < 8
  · simp [crcLow, h, hi]
  · simp [crcLow, h, hi, Nat.add_sub_cancel' (not_lt.mp h)]

/-- With no byte to fold in, a high byte alone only moves down. -/
theorem crcStep_high (a : Half) : crcStep (a >>> 8 <<< 8) 0 = a >>> 8 := by
  have hlow : ∀ i < 8, (a >>> 8 <<< 8).getLsbD i = false := fun i hi => by simp [hi]
  have hdown : a >>> 8 <<< 8 >>> 8 = a >>> 8 := by
    apply BitVec.eq_of_getLsbD_eq
    intro i hi
    by_cases h : 8 + i < 16
    · simp [h]
    · simp [h, BitVec.getLsbD_of_ge a (8 + i) (by omega)]
  simp [crcStep, crcShifts_eq_ushiftRight 8 hlow, hdown]

/-- The high byte moves down, and the low byte goes through the polynomial together with the byte folded in. -/
theorem crcStepByTable_eq (acc : Half) (b : Byte) : crcStepByTable acc b = crcStep acc b := by
  have htable : crcTable (crcLow acc ^^^ b) = crcStep ((crcLow acc).zeroExtend 16) b := by
    simp [crcTable, crcStep]
  calc crcStepByTable acc b
    _ = crcStep (acc >>> 8 <<< 8) 0 ^^^ crcStep ((crcLow acc).zeroExtend 16) b := by
        rw [crcStepByTable, htable, crcStep_high]
    _ = crcStep acc (0 ^^^ b) := by rw [← crcStep_xor, ← eq_high_xor_low]
    _ = crcStep acc b := by simp

/-! ### The residue -/

/-- Folding in the accumulator's own low byte leaves its high byte (R103). -/
theorem crcStep_crcLow (acc : Half) : crcStep acc (crcLow acc) = (crcHigh acc).zeroExtend 16 := by
  have hzero : crcTable 0#8 = 0#16 := crcShifts_zero 8
  rw [← crcStepByTable_eq, crcStepByTable, BitVec.xor_self, hzero, BitVec.xor_zero, ushiftRight_eq_crcHigh]

/-- A step comes to 0 only where the byte is the accumulator (R103, R107). -/
theorem crcStep_eq_zero_iff {acc : Half} {b : Byte} : crcStep acc b = 0 ↔ acc = b.zeroExtend 16 := by
  constructor
  · exact fun h => BitVec.xor_eq_zero_iff.mp (crcShifts_eq_zero h)
  · rintro rfl
    rw [crcStep, BitVec.xor_self]
    exact crcShifts_zero 8

/-- Two steps agree exactly where the accumulators differ as the bytes do. -/
theorem crcStep_eq_iff {a a' : Half} {b b' : Byte} : crcStep a b = crcStep a' b' ↔ a ^^^ a' = (b ^^^ b').zeroExtend 16 := by
  rw [← BitVec.xor_eq_zero_iff, ← crcStep_xor]
  exact crcStep_eq_zero_iff

theorem crcStep_left_injective {a a' : Half} {b : Byte} (h : crcStep a b = crcStep a' b) : a = a' := by
  have hdiff := crcStep_eq_iff.mp h
  rwa [BitVec.xor_self, BitVec.zeroExtend, BitVec.setWidth_zero, BitVec.xor_eq_zero_iff] at hdiff

@[simp] theorem crcLow_le16 (c0 c1 : Byte) : crcLow (le16 c0 c1) = c0 := by
  apply BitVec.eq_of_getLsbD_eq
  intro i hi
  simp [crcLow, le16, hi, show i < 16 by omega]

@[simp] theorem crcHigh_le16 (c0 c1 : Byte) : crcHigh (le16 c0 c1) = c1 := by
  apply BitVec.eq_of_getLsbD_eq
  intro i hi
  simp [crcHigh, le16, hi, show 8 + i < 16 by omega]

/-- Two bytes leave 0 exactly when they are the accumulator, low byte first (R107). -/
theorem crcFold_pair_eq_zero_iff {acc : Half} {c0 c1 : Byte} : crcFold acc [c0, c1] = 0 ↔ le16 c0 c1 = acc := by
  have hown : crcStep (le16 c0 c1) c0 = c1.zeroExtend 16 := by
    simpa only [crcLow_le16, crcHigh_le16] using crcStep_crcLow (le16 c0 c1)
  rw [crcFold_cons, crcFold_cons, crcFold_nil, crcStep_eq_zero_iff, ← hown]
  exact ⟨fun h => (crcStep_left_injective h).symm, fun h => by rw [h]⟩

@[simp] theorem le16_crcLow_crcHigh (a : Half) : le16 (crcLow a) (crcHigh a) = a := by
  apply BitVec.eq_of_getLsbD_eq
  intro i hi
  by_cases h : i < 8
  · simp [le16, crcLow, crcHigh, h, hi]
  · simp [le16, crcLow, crcHigh, h, hi, Nat.add_sub_cancel' (not_lt.mp h), show i - 8 < 8 by omega]

/-- A sequence that carries its own CRC leaves 0 (R103). -/
theorem crc16_append_crcWire (body : List Byte) : crc16 (body ++ crcWire (crc16 body)) = 0 := by
  rw [crc16_append, crcWire, crcFold_pair_eq_zero_iff, le16_crcLow_crcHigh]

/-! ### The check -/

/-- The check compares the last two bytes with the CRC of the others; the residue says the same (R103). -/
theorem crcPasses_iff_residue {frame : List Byte} (h : 2 ≤ frame.length) : crcPasses frame = true ↔ crc16 frame = 0 := by
  obtain ⟨body, c0, c1, rfl⟩ : ∃ body c0 c1, frame = body ++ [c0, c1] := by
    have hdrop : (frame.drop (frame.length - 2)).length = 2 := by rw [List.length_drop]; omega
    obtain ⟨c0, c1, hc⟩ := List.length_eq_two.mp hdrop
    exact ⟨frame.take (frame.length - 2), c0, c1, by rw [← hc, List.take_append_drop]⟩
  rw [crc16_append, crcFold_pair_eq_zero_iff, eq_comm (a := le16 c0 c1)]
  simp [crcPasses]

/-- Two different accumulators stay different over any bytes. -/
theorem crcFold_left_injective {a a' : Half} {bytes : List Byte} (h : crcFold a bytes = crcFold a' bytes) : a = a' := by
  induction bytes generalizing a a' with
  | nil => exact h
  | cons b bs ih => exact crcStep_left_injective (ih h)

/-- Two different bytes leave different accumulators. -/
theorem crcStep_right_injective {a : Half} {b b' : Byte} (h : crcStep a b = crcStep a b') : b = b' := by
  have hdiff := crcStep_eq_iff.mp h
  have hbytes : 0#8 = b ^^^ b' := by simpa using congrArg (·.setWidth 8) hdiff
  exact BitVec.xor_eq_zero_iff.mp hbytes.symm

/-- Changing one byte of a sequence changes its CRC (R111). -/
theorem crcFold_set_ne (acc : Half) {bytes : List Byte} {i : Nat} (hi : i < bytes.length) {b : Byte} (hb : b ≠ bytes[i]) :
    crcFold acc (bytes.set i b) ≠ crcFold acc bytes := by
  induction bytes generalizing acc i with
  | nil => simp at hi
  | cons c bs ih =>
    cases i with
    | zero => exact fun h => hb (crcStep_right_injective (crcFold_left_injective h))
    | succ k => exact ih (crcStep acc c) (Nat.lt_of_succ_lt_succ hi) hb

/-- Flipping a bit of a byte that is there changes the CRC of the whole. -/
theorem crc16_flipBit_ne {frame : List Byte} {i j : Nat} (hi : i < frame.length) (hj : j < 8) :
    crc16 (flipBit frame i j) ≠ crc16 frame := by
  apply crcFold_set_ne 0xFFFF hi
  have hmask : 1#8 <<< j ≠ 0#8 := by
    intro h
    simpa [hj] using congrArg (·.getLsbD j) h
  simpa [hi] using hmask

/-! ### The obligations -/

/-- Settles O9: the commands' arms and words, and the two worked values of R106. -/
theorem hostCommandResults : Obligations.HostCommandResults :=
  fun _ => ⟨rfl, rfl, fun _ => rfl, rfl, rfl, fun _ => rfl, by decide, by decide⟩

/-- Settles O10: two bytes that leave 0 are the accumulator's own. -/
theorem crcVerifyBothWaysAgree : Obligations.CrcVerifyBothWaysAgree :=
  ⟨fun _ _ => ⟨rfl, rfl⟩, fun _ _ _ => crcFold_pair_eq_zero_iff⟩

/-- Settles O11: a step is linear, the accumulator's high byte only moves down, and the table holds the rest. -/
theorem crcStepMatchesTable : Obligations.CrcStepMatchesTable :=
  crcStepByTable_eq

/-- Settles O12: the CRC's own low byte leaves its high byte, which then leaves 0. -/
theorem crcResidueIsZero : Obligations.CrcResidueIsZero := by
  intro bytes
  refine ⟨crc16_append_crcWire bytes, ?_⟩
  rw [crc16_append, crcFold_cons, crcFold_nil, crcStep_crcLow]

/-- Settles O13: the frame leaves the residue 0, and a flipped bit of it changes the residue. -/
theorem singleBitFlipsAreDetected : Obligations.SingleBitFlipsAreDetected := by
  intro body i j hi hj
  have hlen : (body ++ crcWire (crc16 body)).length = body.length + 2 := by simp [crcWire]
  have hzero := crc16_append_crcWire body
  refine ⟨(crcPasses_iff_residue (by omega)).mpr hzero, ?_⟩
  rw [Bool.eq_false_iff, Ne, crcPasses_iff_residue (by simp [flipBit, hlen]), ← hzero]
  exact crc16_flipBit_ne (by omega) hj

end Sys2Proof.Machine
end

section
/-! PROOFS. The frame of the nine commands, field by field: one rule per operation of the state (what it may write, and for
which command), and each command's frame read off its operations. -/

namespace Sys2Proof.Machine

/-! ### The frame -/

/-- NOP or a command of the host CRC unit (40_crc.md R104 to R107). -/
def IsHostCrc (i : Instr) : Prop :=
  i = .nop ∨ i = .crcInit ∨ (∃ b, i = .crcByte b) ∨ ∃ h, i = .crcVerify h

/-- What no command writes: the host's registers, two sticky bits, the parameters, the inputs and both buffers. -/
structure KeptByCommands (s t : State) : Prop where
  irqEn : t.irqEn = s.irqEn
  slave : t.slave = s.slave
  slaveSet : t.slaveSet = s.slaveSet
  timeout : t.timeout = s.timeout
  txfc : t.txfc = s.txfc
  txlen : t.txlen = s.txlen
  illegal : t.illegal = s.illegal
  excess : t.excess = s.excess
  params : t.params = s.params
  inputs : t.inputs = s.inputs
  txbuf : t.txbuf = s.txbuf
  rxbuf : t.rxbuf = s.rxbuf

/-- The frame of the command `i`, from `s` to `t`: each field is kept, but by the commands that its hypotheses exclude. -/
structure CommandFrame (i : Instr) (s t : State) : Prop where
  kept : KeptByCommands s t
  crcAcc : (∀ b, i ≠ .crcByte b) → i ≠ .crcInit → t.crcAcc = s.crcAcc
  crcMatch : (∀ h, i ≠ .crcVerify h) → t.crcMatch = s.crcMatch
  txcrc : i ≠ .encode → i ≠ .start → t.txcrc = s.txcrc
  rxcrc : i ≠ .decode → t.rxcrc = s.rxcrc
  exchange : i ≠ .start → t.txpos = s.txpos ∧ t.rxlen = s.rxlen ∧ t.rxexp = s.rxexp
  phase : i ≠ .start → i ≠ .connect → t.phase = s.phase
  link : i ≠ .close → t.link = s.link
  outputs : i ≠ .start → i ≠ .connect → i ≠ .close → t.outputs = s.outputs
  result : IsHostCrc i →
    t.pendingStart = s.pendingStart ∧ t.deadline = s.deadline ∧ t.done = s.done ∧ t.reject = s.reject ∧ t.err = s.err ∧
      t.excCode = s.excCode ∧ t.fcMismatch = s.fcMismatch ∧ t.fallback = s.fallback

theorem KeptByCommands.refl (s : State) : KeptByCommands s s :=
  ⟨rfl, rfl, rfl, rfl, rfl, rfl, rfl, rfl, rfl, rfl, rfl, rfl⟩

theorem CommandFrame.refl (i : Instr) (s : State) : CommandFrame i s s where
  kept := .refl s
  crcAcc _ _ := rfl
  crcMatch _ := rfl
  txcrc _ _ := rfl
  rxcrc _ := rfl
  exchange _ := ⟨rfl, rfl, rfl⟩
  phase _ _ := rfl
  link _ := rfl
  outputs _ _ _ := rfl
  result _ := ⟨rfl, rfl, rfl, rfl, rfl, rfl, rfl, rfl⟩

/-! ### What each operation writes -/

section
variable {i : Instr} {s u : State}

theorem CommandFrame.setCrcAcc {acc : Half} (h : CommandFrame i s u) (hi : i = .crcInit ∨ ∃ b, i = .crcByte b) :
    CommandFrame i s { u with crcAcc := acc } :=
  { h with kept := { h.kept with }, crcAcc := fun hbyte hinit => absurd hi (by simp [hbyte, hinit]) }

theorem CommandFrame.setCrcMatch {m : Bool} (h : CommandFrame i s u) (hi : ∃ v, i = .crcVerify v) :
    CommandFrame i s { u with crcMatch := m } :=
  { h with kept := { h.kept with }, crcMatch := fun hverify => absurd hi (by simp [hverify]) }

theorem CommandFrame.markReject (h : CommandFrame i s u) (hi : ¬IsHostCrc i) : CommandFrame i s u.markReject :=
  { h with kept := { h.kept with }, result := fun hcrc => absurd hcrc hi }

theorem CommandFrame.accept (h : CommandFrame i s u) (hi : ¬IsHostCrc i) : CommandFrame i s u.accept :=
  { h with kept := { h.kept with }, result := fun hcrc => absurd hcrc hi }

theorem CommandFrame.armDeadline (h : CommandFrame i s u) (hi : ¬IsHostCrc i) : CommandFrame i s u.armDeadline :=
  { h with kept := { h.kept with }, result := fun hcrc => absurd hcrc hi }

/-- Completing from IDLE with an error that keeps the link writes the result only (60_exceptions.md R221, R226). -/
theorem CommandFrame.complete {e : ErrCode} (h : CommandFrame i s u) (hi : ¬IsHostCrc i) (hs : s.phase = .idle)
    (he : e.invalidates u.phase = false) : CommandFrame i s (u.complete e) :=
  { h with
    kept := { h.kept with }
    phase := fun _ _ => hs.symm
    link := fun hc => by simp [he, h.link hc]
    outputs := fun hstart hconnect hclose => by simp [he, h.outputs hstart hconnect hclose]
    result := fun hcrc => absurd hcrc hi }

theorem CommandFrame.encodeCrc (h : CommandFrame i s u) (hi : i = .encode ∨ i = .start) : CommandFrame i s u.encodeCrc :=
  { h with kept := { h.kept with }, txcrc := fun hencode hstart => absurd hi (by simp [hencode, hstart]) }

theorem CommandFrame.applyVerdict (h : CommandFrame .decode s u) (v : Verdict) : CommandFrame .decode s (u.applyVerdict v) :=
  { h with
    kept := { h.kept with }
    rxcrc := fun hne => absurd rfl hne
    result := fun hcrc => absurd hcrc (by simp [IsHostCrc]) }

theorem CommandFrame.rewind (h : CommandFrame .start s u) : CommandFrame .start s u.rewind :=
  { h with kept := { h.kept with }, exchange := fun hne => absurd rfl hne }

theorem CommandFrame.enterTx (h : CommandFrame .start s u) : CommandFrame .start s u.enterTx :=
  { h with kept := { h.kept with }, phase := fun hne => absurd rfl hne }

theorem CommandFrame.dial {p : Bool} (h : CommandFrame i s u) (hi : i = .start ∨ i = .connect) :
    CommandFrame i s (u.dial p) :=
  have excluded {P : Prop} (hstart : i ≠ .start) (hconnect : i ≠ .connect) : P := absurd hi (by simp [hstart, hconnect])
  { h with
    kept := { h.kept with }
    phase := excluded
    outputs := fun hstart hconnect _ => excluded hstart hconnect
    result := fun hcrc => absurd hcrc (by obtain rfl | rfl := hi <;> simp [IsHostCrc]) }

theorem CommandFrame.hangUp (h : CommandFrame .close s u) : CommandFrame .close s u.hangUp :=
  { h with kept := { h.kept with }, link := fun hne => absurd rfl hne, outputs := fun _ _ hne => absurd rfl hne }

/-- An engine command is refused, which sets REJECT only, or runs from IDLE (43_transport.md R172). -/
theorem engineCommand_frame {r t : State} {needsSlave : Bool}
    (h : (if s.refuses needsSlave then .next s.markReject else .next r : Host.Outcome State Fault Refusal) = .next t)
    (hi : ¬IsHostCrc i) (hr : s.phase = .idle → CommandFrame i s r) : CommandFrame i s t := by
  split_ifs at h with hn
  · cases h; exact (CommandFrame.refl i s).markReject hi
  · cases h; exact hr (State.idle_of_not_refuses (by simpa using hn)).1

end

/-! ### The commands -/

theorem State.runEncode_frame {s : State} (hs : s.phase = .idle) : CommandFrame .encode s s.accept.runEncode := by
  have hi : ¬IsHostCrc .encode := by simp [IsHostCrc]
  have haccept := (CommandFrame.refl .encode s).accept hi
  unfold State.runEncode
  split_ifs
  · exact haccept.complete hi hs rfl
  · exact (haccept.encodeCrc (.inl rfl)).complete hi hs rfl

theorem State.completeVerify_frame {s : State} (hs : s.phase = .idle) (l : Nat) :
    CommandFrame .decode s (s.accept.completeVerify l) := by
  have hi : ¬IsHostCrc .decode := by simp [IsHostCrc]
  have hkeeps : (s.accept.verify l).err.invalidates s.phase = false := by
    rw [ErrCode.invalidates_of_ne_rx (by simp [hs]), State.verify_not_transport]
  exact (((CommandFrame.refl .decode s).accept hi).applyVerdict _).complete hi hs hkeeps

theorem State.runStart_frame {s : State} (hs : s.phase = .idle) : CommandFrame .start s s.accept.runStart := by
  have hi : ¬IsHostCrc .start := by simp [IsHostCrc]
  have haccept := (CommandFrame.refl .start s).accept hi
  have hready := (haccept.encodeCrc (.inr rfl)).rewind.armDeadline hi
  unfold State.runStart State.beginExchange
  split_ifs
  · exact haccept.complete hi hs rfl
  · exact hready.enterTx
  · exact hready.dial (.inl rfl)

theorem State.runConnect_frame {s : State} (hs : s.phase = .idle) : CommandFrame .connect s s.accept.runConnect := by
  have hi : ¬IsHostCrc .connect := by simp [IsHostCrc]
  have haccept := (CommandFrame.refl .connect s).accept hi
  unfold State.runConnect
  split_ifs
  · exact haccept.complete hi hs rfl
  · exact (haccept.armDeadline hi).dial (.inr rfl)

theorem State.runClose_frame {s : State} (hs : s.phase = .idle) : CommandFrame .close s s.accept.runClose := by
  have hi : ¬IsHostCrc .close := by simp [IsHostCrc]
  have haccept := (CommandFrame.refl .close s).accept hi
  unfold State.runClose
  split_ifs
  · exact haccept.hangUp.complete hi hs rfl
  · exact haccept.complete hi hs rfl

/-- What a command changes is what it may write. -/
theorem exec_frame {i : Instr} {s t : State} (h : exec i s = .next t) : CommandFrame i s t := by
  cases i with
  | nop => cases h; exact .refl _ s
  | crcInit => cases h; exact (CommandFrame.refl .crcInit s).setCrcAcc (.inl rfl)
  | crcByte b => cases h; exact (CommandFrame.refl (.crcByte b) s).setCrcAcc (.inr ⟨b, rfl⟩)
  | crcVerify v => cases h; exact (CommandFrame.refl (.crcVerify v) s).setCrcMatch ⟨v, rfl⟩
  | encode => exact engineCommand_frame h (by simp [IsHostCrc]) State.runEncode_frame
  | decode => exact engineCommand_frame h (by simp [IsHostCrc]) (State.completeVerify_frame · _)
  | start => exact engineCommand_frame h (by simp [IsHostCrc]) State.runStart_frame
  | connect => exact engineCommand_frame h (by simp [IsHostCrc]) State.runConnect_frame
  | close => exact engineCommand_frame h (by simp [IsHostCrc]) State.runClose_frame

/-- Settles O28: each field's clause is the frame's, and a buffer that is kept reads the same at every index. -/
theorem commandsFrame : Obligations.CommandsFrame := by
  intro i s t h
  have f := exec_frame h
  have k := f.kept
  exact ⟨k.irqEn, k.slave, k.slaveSet, k.timeout, k.txfc, k.txlen, k.illegal, k.excess, k.params, k.inputs,
    fun n => congrArg (Memory.read _ · n) k.txbuf, fun n => congrArg (Memory.read _ · n) k.rxbuf,
    f.crcAcc, f.crcMatch, f.txcrc, f.rxcrc, f.exchange, f.phase, f.link, f.outputs, f.result⟩

end Sys2Proof.Machine
end

section
/-! PROOFS. The two CRC states of the block are apart (40_crc.md R109): a host CRC command commutes with overwriting TXCRC and
RXCRC, an engine command and a stream, link or clock event with overwriting CRC_ACC and CRC_MATCH. What commutes with every
overwriting neither reads nor writes what is overwritten. -/

namespace Sys2Proof.Machine

/-! ### Overwriting, and what commutes with it -/

/-- The block with other values in the host CRC unit. -/
def State.withCrcUnit (acc : Half) (m : Bool) (s : State) : State :=
  { s with crcAcc := acc, crcMatch := m }

/-- The block with other values in the engine's CRC registers. -/
def State.withFrameCrcs (tx rx : Half) (s : State) : State :=
  { s with txcrc := tx, rxcrc := rx }

/-- An outcome with its next state overwritten. -/
def onNext (put : State → State) (o : Host.Outcome State Fault Refusal) : Host.Outcome State Fault Refusal :=
  match o with
  | .next s => .next (put s)
  | .fault r => .fault r
  | .refused r => .refused r

/-- `act` does to the overwritten state what it does to the state, overwritten. -/
def CommutesWith (put : State → State) (act : State → Host.Outcome State Fault Refusal) : Prop :=
  Function.Semiconj act put (onNext put)

theorem CommutesWith.of_commute {put f : State → State} (h : Function.Commute f put) :
    CommutesWith put fun s => .next (f s) :=
  fun s => congrArg Host.Outcome.next (h s)

theorem CommutesWith.next {put : State → State} {act : State → Host.Outcome State Fault Refusal} (h : CommutesWith put act)
    {s t : State} (hs : act s = .next t) : act (put s) = .next (put t) := by
  rw [h s, hs, onNext]

/-- Overwriting with what stands there already shows that `act` does not write it. -/
theorem CommutesWith.fixed {put : State → State} {act : State → Host.Outcome State Fault Refusal} (h : CommutesWith put act)
    {s t : State} (hput : put s = s) (hs : act s = .next t) : put t = t := by
  have hnext := h.next hs
  rw [hput, hs] at hnext
  injection hnext with ht
  exact ht.symm

/-- A branch on what `f` leaves alone commutes with `f` when both its sides do. -/
theorem ite_eq_apply_ite {α β : Type} (f : α → β) {c : Prop} [Decidable c] {x y : α} {x' y' : β} (hx : x' = f x)
    (hy : y' = f y) : (if c then x' else y') = f (if c then x else y) := by
  rw [apply_ite f, hx, hy]

section
variable (acc : Half) (m : Bool)

/-! ### The engine commands ignore the host CRC unit -/

/-- Neither the lock nor a refusal reads the unit (43_transport.md R172). -/
theorem engineCommand_commutes {needsSlave : Bool} {run : State → State}
    (h : Function.Commute run (State.withCrcUnit acc m)) :
    CommutesWith (State.withCrcUnit acc m)
      fun s => if s.refuses needsSlave then .next s.markReject else .next (run s.accept) :=
  fun s => ite_eq_apply_ite (onNext _) rfl (CommutesWith.of_commute h s.accept)

theorem State.runEncode_commute : Function.Commute State.runEncode (State.withCrcUnit acc m) :=
  fun _ => ite_eq_apply_ite (State.withCrcUnit acc m) rfl rfl

theorem State.beginExchange_commute : Function.Commute State.beginExchange (State.withCrcUnit acc m) :=
  fun _ => ite_eq_apply_ite (State.withCrcUnit acc m) rfl rfl

theorem State.runStart_commute : Function.Commute State.runStart (State.withCrcUnit acc m) :=
  fun s => ite_eq_apply_ite (State.withCrcUnit acc m) rfl (State.beginExchange_commute acc m s)

theorem State.runConnect_commute : Function.Commute State.runConnect (State.withCrcUnit acc m) :=
  fun _ => ite_eq_apply_ite (State.withCrcUnit acc m) rfl rfl

theorem State.runClose_commute : Function.Commute State.runClose (State.withCrcUnit acc m) :=
  fun _ => ite_eq_apply_ite (State.withCrcUnit acc m) rfl rfl

theorem exec_commutes_withCrcUnit {i : Instr}
    (hi : i = .encode ∨ i = .decode ∨ i = .start ∨ i = .connect ∨ i = .close) :
    CommutesWith (State.withCrcUnit acc m) (exec i) := by
  obtain rfl | rfl | rfl | rfl | rfl := hi
  · exact engineCommand_commutes acc m (State.runEncode_commute acc m)
  · exact engineCommand_commutes acc m (run := fun s => s.completeVerify s.rxlen.toNat) fun _ => rfl
  · exact engineCommand_commutes acc m (State.runStart_commute acc m)
  · exact engineCommand_commutes acc m (State.runConnect_commute acc m)
  · exact engineCommand_commutes acc m (State.runClose_commute acc m)

/-! ### The stream, link and clock events ignore the host CRC unit -/

theorem State.advanceTx_commute : Function.Commute State.advanceTx (State.withCrcUnit acc m) :=
  fun _ => ite_eq_apply_ite (State.withCrcUnit acc m) rfl rfl

theorem onTxPull_commutes : CommutesWith (State.withCrcUnit acc m) onTxPull := by
  intro s
  refine ite_eq_apply_ite (onNext _) rfl (ite_eq_apply_ite (onNext _) ?_ rfl)
  exact CommutesWith.of_commute (State.advanceTx_commute acc m) (s.emit (.txByte (s.txByte s.txpos.toNat)))

theorem State.finishRx_commute : Function.Commute State.finishRx (State.withCrcUnit acc m) :=
  fun _ => ite_eq_apply_ite (State.withCrcUnit acc m) rfl rfl

theorem State.sizeRx_commutes : CommutesWith (State.withCrcUnit acc m) State.sizeRx := by
  intro s
  have hfinish := CommutesWith.of_commute (State.finishRx_commute acc m)
  have hd : (s.withCrcUnit acc m).dispatch = s.dispatch := rfl
  rw [State.sizeRx, State.sizeRx, hd]
  cases s.dispatch with
  | wait => exact hfinish s
  | expect n fb => exact hfinish (s.expectLength n fb)
  | lengthError | outside => rfl

theorem State.reassemble_commutes : CommutesWith (State.withCrcUnit acc m) State.reassemble :=
  fun s => ite_eq_apply_ite (onNext _) (State.sizeRx_commutes acc m s)
    (CommutesWith.of_commute (State.finishRx_commute acc m) s)

theorem onRxByte_commutes (b : Byte) : CommutesWith (State.withCrcUnit acc m) (onRxByte b) :=
  fun s => ite_eq_apply_ite (onNext _) rfl (ite_eq_apply_ite (onNext _) (State.reassemble_commutes acc m (s.storeRx b)) rfl)

theorem onConnectOk_commute : Function.Commute onConnectOk (State.withCrcUnit acc m) :=
  fun _ => ite_eq_apply_ite (State.withCrcUnit acc m) rfl (ite_eq_apply_ite (State.withCrcUnit acc m) rfl rfl)

theorem onConnectFail_commute : Function.Commute onConnectFail (State.withCrcUnit acc m) :=
  fun _ => ite_eq_apply_ite (State.withCrcUnit acc m) rfl rfl

theorem onLinkDown_commute : Function.Commute onLinkDown (State.withCrcUnit acc m) := by
  intro s
  have hp : (s.withCrcUnit acc m).phase = s.phase := rfl
  rw [onLinkDown, onLinkDown, hp]
  cases s.phase <;> rfl

theorem State.expire_commute : Function.Commute State.expire (State.withCrcUnit acc m) := by
  intro s
  have hp : (s.withCrcUnit acc m).phase = s.phase := rfl
  rw [State.expire, State.expire, hp]
  cases s.phase <;> rfl

theorem onTick_commute : Function.Commute onTick (State.withCrcUnit acc m) :=
  fun s => ite_eq_apply_ite (State.withCrcUnit acc m) rfl
    (ite_eq_apply_ite (State.withCrcUnit acc m) (State.expire_commute acc m s.countDown) rfl)

theorem handleEvent_commutes_withCrcUnit {e : Event}
    (he : e = .txPull ∨ (∃ b, e = .rxByte b) ∨ e = .connectOk ∨ e = .connectFail ∨ e = .linkDown ∨ e = .tick) :
    CommutesWith (State.withCrcUnit acc m) (handleEvent e) := by
  obtain rfl | ⟨b, rfl⟩ | rfl | rfl | rfl | rfl := he
  · exact onTxPull_commutes acc m
  · exact onRxByte_commutes acc m b
  · exact .of_commute (onConnectOk_commute acc m)
  · exact .of_commute (onConnectFail_commute acc m)
  · exact .of_commute (onLinkDown_commute acc m)
  · exact .of_commute (onTick_commute acc m)

end

/-! ### The host CRC commands ignore the engine's CRC registers -/

theorem exec_commutes_withFrameCrcs (tx rx : Half) {i : Instr} (hi : IsHostCrc i) :
    CommutesWith (State.withFrameCrcs tx rx) (exec i) := by
  obtain rfl | rfl | ⟨b, rfl⟩ | ⟨h, rfl⟩ := hi <;> exact fun _ => rfl

/-- Settles O14: overwriting either CRC state commutes with what the other side does. -/
theorem crcUnitIsIndependent : Obligations.CrcUnitIsIndependent := by
  refine ⟨fun i s x y hi => ?_, fun i s a m hi => ?_, fun e s t a m he h => ?_⟩
  · obtain ⟨t, ht⟩ := exec_answers_next i s
    have hkeep : t.withFrameCrcs s.txcrc s.rxcrc = t := (exec_commutes_withFrameCrcs s.txcrc s.rxcrc hi).fixed rfl ht
    exact ⟨t, ht, (congrArg State.txcrc hkeep).symm, (congrArg State.rxcrc hkeep).symm,
      (exec_commutes_withFrameCrcs x y hi).next ht⟩
  · obtain ⟨t, ht⟩ := exec_answers_next i s
    have hkeep : t.withCrcUnit s.crcAcc s.crcMatch = t := (exec_commutes_withCrcUnit s.crcAcc s.crcMatch hi).fixed rfl ht
    exact ⟨t, ht, (congrArg State.crcAcc hkeep).symm, (congrArg State.crcMatch hkeep).symm,
      (exec_commutes_withCrcUnit a m hi).next ht⟩
  · have hkeep : t.withCrcUnit s.crcAcc s.crcMatch = t := (handleEvent_commutes_withCrcUnit s.crcAcc s.crcMatch he).fixed rfl h
    exact ⟨(congrArg State.crcAcc hkeep).symm, (congrArg State.crcMatch hkeep).symm,
      (handleEvent_commutes_withCrcUnit a m he).next h⟩

end Sys2Proof.Machine
end

section
/-! PROOFS. The length dispatch in RX (41_length_dispatch.md R122 to R132): what dispatch() concludes from the second and from
the third byte, and the step of an RxByte by that conclusion. -/

namespace Sys2Proof.Machine

/-! ### What dispatch() concludes -/

/-- At the second byte the function code decides: an exception, or else the class (41_length_dispatch.md R123 to R127). -/
theorem State.dispatch_storeRx_second {s : State} (hlen : s.rxlen = 1) (b : Byte) :
    (s.storeRx b).dispatch =
      if b = exceptionCodeOf s.txfc then .expect exceptionLength false else classDecision s.txClass := by
  have htwo : (s.storeRx b).rxlen.toNat = 2 := by simp [hlen]
  have hcode : (s.storeRx b).rxAt 1 = b := by simp [hlen]
  rw [State.dispatch, htwo, hcode]
  rfl

/-- At the third byte the byte count decides (41_length_dispatch.md R124, R129). -/
theorem State.dispatch_storeRx_third {s : State} (hlen : s.rxlen = 2) (bc : Byte) :
    (s.storeRx bc).dispatch = countDecision bc := by
  have hthree : (s.storeRx bc).rxlen.toNat = 3 := by simp [hlen]
  have hcount : (s.storeRx bc).rxAt 2 = bc := by simp [hlen]
  rw [State.dispatch, hthree, hcount]
  rfl

/-- Both write classes answer with the fixed length 8 (41_length_dispatch.md R125, R126). -/
theorem classDecision_of_write {c : FcClass} (h : c = .writeSingle ∨ c = .writeMultiple) :
    classDecision c = .expect writeLength false := by
  obtain rfl | rfl := h <;> rfl

theorem countDecision_of_le {bc : Byte} (h : bc.toNat ≤ maxByteCount) : countDecision bc = .expect (readLength bc) false :=
  if_neg (Nat.not_lt.mpr h)

theorem countDecision_of_gt {bc : Byte} (h : bc.toNat > maxByteCount) : countDecision bc = .lengthError :=
  if_pos h

/-- A length within RXBUF keeps its value in the 9 bits of RXEXP (10_state.md R31). -/
theorem State.toNat_rxexp_expectLength (s : State) {n : Nat} (h : n ≤ Config.maxAdu) (fb : Bool) :
    (s.expectLength n fb).rxexp.toNat = n :=
  Nat.mod_eq_of_lt (lt_of_le_of_lt h (by decide))

/-- Settles O21: the bounds are those of `State.dispatch_expect`, and within them RXEXP holds the length. -/
theorem dispatchedLengthFitsRxbuf : Obligations.DispatchedLengthFitsRxbuf := by
  intro s n fb h
  obtain ⟨-, -, hmin, hmax, -⟩ := State.dispatch_expect h
  have hrange : 4 ≤ n ∧ n ≤ 256 := ⟨hmin, hmax⟩
  exact ⟨by omega, hmin, hmax, s.toNat_rxexp_expectLength hmax fb⟩

/-! ### The step of an RxByte by that conclusion -/

theorem handleEvent_rxByte_of_rx {s : State} (hp : s.phase = .rx) (hroom : s.rxlen.toNat < Config.maxAdu) (b : Byte) :
    handleEvent (.rxByte b) s = (s.storeRx b).reassemble := by
  rw [handleEvent, onRxByte, if_neg (not_not.mpr hp), if_pos hroom]

/-- While the length stays unknown nothing completes (43_transport.md R178). -/
theorem State.reassemble_of_wait {s : State} (hx : s.rxexp = 0) (hd : s.dispatch = .wait) : s.reassemble = .next s := by
  have hf : s.finishRx = s := if_neg fun hdone => hdone.1 hx
  rw [State.reassemble, if_pos hx, State.sizeRx, hd, hf]

/-- A length just found is above the bytes that have arrived, so the byte that gives it never completes (R178, R180). -/
theorem State.reassemble_of_expect {s : State} (hx : s.rxexp = 0) {n : Nat} {fb : Bool} (hd : s.dispatch = .expect n fb) :
    s.reassemble = .next (s.expectLength n fb) := by
  obtain ⟨-, hthree, hmin, hmax, -⟩ := State.dispatch_expect hd
  have hn := s.toNat_rxexp_expectLength hmax fb
  have hshort : s.rxlen.toNat < (s.expectLength n fb).rxexp.toNat := by
    rw [hn]
    exact lt_of_le_of_lt hthree hmin
  have hf : (s.expectLength n fb).finishRx = s.expectLength n fb :=
    if_neg fun hdone => hshort.ne (congrArg BitVec.toNat hdone.2)
  rw [State.reassemble, if_pos hx, State.sizeRx, hd]
  exact congrArg Host.Outcome.next hf

theorem State.reassemble_of_lengthError {s : State} (hx : s.rxexp = 0) (hd : s.dispatch = .lengthError) :
    s.reassemble = .next (s.complete .lengthError) := by
  rw [State.reassemble, if_pos hx, State.sizeRx, hd]

/-- Settles O22: the second byte is stored at RXBUF[1], and the step follows `State.dispatch_storeRx_second`. -/
theorem secondByteDecidesLength : Obligations.SecondByteDecidesLength := by
  intro s b hp hlen hx
  have hstore : s.storeRx b = { s with rxbuf := s.rxbuf.write 1 b, rxlen := 2 } := by
    rw [State.storeRx, hlen]
    rfl
  have hunsized : (s.storeRx b).rxexp = 0 := hx
  have hdispatch := State.dispatch_storeRx_second hlen b
  rw [handleEvent_rxByte_of_rx hp (by simp [hlen, Config.maxAdu])]
  refine ⟨fun hexc => ?_, fun hnot => ?_⟩
  · rw [State.reassemble_of_expect hunsized (hdispatch.trans (if_pos hexc)), hstore]
    simp [State.expectLength, exceptionLength]
  · have hclass : (s.storeRx b).dispatch = classDecision s.txClass := hdispatch.trans (if_neg hnot)
    refine ⟨fun hread => ?_, fun hwrite => ?_, fun hother => ?_⟩
    · rw [hread] at hclass
      rw [State.reassemble_of_wait hunsized hclass, hstore]
    · rw [State.reassemble_of_expect hunsized (hclass.trans (classDecision_of_write hwrite)), hstore]
      simp [State.expectLength, writeLength]
    · rw [hother] at hclass
      rw [State.reassemble_of_expect hunsized hclass, hstore]
      simp [State.expectLength, Config.minAdu]

/-- Settles O23: the third byte is stored at RXBUF[2], and the step follows `State.dispatch_storeRx_third`; LENGTH_ERROR in RX
invalidates the link. -/
theorem byteCountDecidesLength : Obligations.ByteCountDecidesLength := by
  intro s bc hp hlen hx
  have hstore : s.storeRx bc = { s with rxbuf := s.rxbuf.write 2 bc, rxlen := 3 } := by
    rw [State.storeRx, hlen]
    rfl
  have hunsized : (s.storeRx bc).rxexp = 0 := hx
  have hdispatch := State.dispatch_storeRx_third hlen bc
  rw [handleEvent_rxByte_of_rx hp (by simp [hlen, Config.maxAdu])]
  refine ⟨fun hfits => ?_, fun hlong => ?_⟩
  · rw [State.reassemble_of_expect hunsized (hdispatch.trans (countDecision_of_le hfits)), hstore]
    simp [State.expectLength, readLength]
  · have hinv : ErrCode.lengthError.invalidates s.phase = true := by simp [ErrCode.invalidates_iff, hp]
    rw [State.reassemble_of_lengthError hunsized (hdispatch.trans (countDecision_of_gt hlong)), hstore]
    simp [State.complete, hinv]

end Sys2Proof.Machine
end

section
/-! PROOFS. The codec (42_codec.md R140 to R151): what verify(L) returns, writes and reads, the request frame, and the commands
ENCODE and DECODE in every state. -/

namespace Sys2Proof.Machine

/-! ### What verify(L) returns and writes -/

/-- The code that verify(L) returns: that of the first check to fail, in the order of R143. -/
theorem State.err_verify (s : State) (l : Nat) :
    (s.verify l).err =
      if l < 4 then .frameTooShort
      else if l > 256 then .lengthError
      else if crc16 (s.rxBytes (l - 2)) ≠ le16 (s.rxAt (l - 2)) (s.rxAt (l - 1)) then .crcMismatch
      else if s.rxAt 0 ≠ s.slave then .addressMismatch
      else if s.rxAt 1 = exceptionCodeOf s.txfc then if l ≠ 5 then .lengthError else .exceptionResponse
      else .ok := by
  unfold State.verify State.verifyCrc State.verifyContent State.verdictKeeping exceptionLength
  split_ifs <;> rfl

/-- RXCRC is written where there are 4 to 256 bytes to check (42_codec.md R143). -/
theorem State.rxcrc_verify (s : State) (l : Nat) :
    (s.verify l).rxcrc = if 4 ≤ l ∧ l ≤ 256 then crc16 (s.rxBytes (l - 2)) else s.rxcrc := by
  simp only [← Nat.not_lt, ite_and]
  unfold State.verify State.verifyCrc State.verifyContent State.verdictKeeping
  split_ifs <;> rfl

/-- What a verdict on RXBUF writes beside RXCRC: EXC_CODE with EXCEPTION_RESPONSE only, FC_MISMATCH with OK only (42_codec.md
R143, R147, R148). -/
structure Verdict.FlagsByCode (s : State) (v : Verdict) : Prop where
  excCode : v.excCode = if v.err = .exceptionResponse then s.rxAt 2 else s.excCode
  fcMismatch : v.fcMismatch = if v.err = .ok then decide (s.rxAt 1 ≠ s.txfc) else s.fcMismatch

theorem State.verify_flagsByCode (s : State) (l : Nat) : (s.verify l).FlagsByCode s := by
  have hmis : (s.rxAt 1 != s.txfc) = decide (s.rxAt 1 ≠ s.txfc) := by simp [bne, beq_eq_decide]
  unfold State.verify State.verifyCrc State.verifyContent State.verdictKeeping
  rw [hmis]
  split_ifs <;> exact ⟨rfl, rfl⟩

theorem State.err_verify_eq_frameTooShort_iff (s : State) (l : Nat) : (s.verify l).err = .frameTooShort ↔ l < 4 := by
  rw [s.err_verify]
  split_ifs with h <;> simp [h]

/-- With a whole frame in RXBUF the code is that of R143's CRC check, or else of the checks behind it. -/
theorem State.err_verify_of_frame (s : State) {l : Nat} (hmin : 4 ≤ l) (hmax : l ≤ 256) :
    (s.verify l).err =
      if crc16 (s.rxBytes (l - 2)) ≠ le16 (s.rxAt (l - 2)) (s.rxAt (l - 1)) then .crcMismatch
      else if s.rxAt 0 ≠ s.slave then .addressMismatch
      else if s.rxAt 1 = exceptionCodeOf s.txfc then if l ≠ 5 then .lengthError else .exceptionResponse
      else .ok := by
  rw [s.err_verify, if_neg (Nat.not_lt.mpr hmin), if_neg (Nat.not_lt.mpr hmax)]

/-! ### What verify(L) reads -/

section
variable {s t : State} {l : Nat}

theorem State.rxBytes_congr (h : ∀ k < l, t.rxAt k = s.rxAt k) : t.rxBytes l = s.rxBytes l :=
  List.map_congr_left fun k hk => h k (List.mem_range.mp hk)

/-- The code depends on the frame, SLAVE and TXFC alone (42_codec.md R143). -/
theorem State.err_verify_congr (hslave : t.slave = s.slave) (hfc : t.txfc = s.txfc) (hrx : ∀ k < l, t.rxAt k = s.rxAt k) :
    (t.verify l).err = (s.verify l).err := by
  rw [t.err_verify, s.err_verify]
  by_cases hshort : l < 4
  · rw [if_pos hshort, if_pos hshort]
  · have hbody : t.rxBytes (l - 2) = s.rxBytes (l - 2) := State.rxBytes_congr fun k hk => hrx k (by omega)
    rw [hbody, hslave, hfc, hrx 0 (by omega), hrx 1 (by omega), hrx (l - 2) (by omega), hrx (l - 1) (by omega)]

/-- Where the values that verify may keep agree too, the whole verdict is the same. -/
theorem State.verify_congr (hslave : t.slave = s.slave) (hfc : t.txfc = s.txfc) (hrx : ∀ k < l, t.rxAt k = s.rxAt k)
    (hcrc : t.rxcrc = s.rxcrc) (hexc : t.excCode = s.excCode) (hmis : t.fcMismatch = s.fcMismatch) :
    t.verify l = s.verify l := by
  by_cases hshort : l < 4
  · rw [State.verify, State.verify, if_pos hshort, if_pos hshort, State.verdictKeeping, State.verdictKeeping, hcrc, hexc, hmis]
  · have hbody : t.rxBytes (l - 2) = s.rxBytes (l - 2) := State.rxBytes_congr fun k hk => hrx k (by omega)
    simp only [State.verify, State.verifyCrc, State.verifyContent, State.verdictKeeping, hbody, hslave, hfc, hcrc, hexc, hmis,
      hrx 0 (by omega), hrx 1 (by omega), hrx 2 (by omega), hrx (l - 2) (by omega), hrx (l - 1) (by omega)]

end

/-- Settles O18: the code is the first check's to fail, and each part of the verdict has its own law above. -/
theorem verifyChecksInOrder : Obligations.VerifyChecksInOrder := by
  intro s l
  have hflags := s.verify_flagsByCode l
  refine ⟨s.err_verify_eq_frameTooShort_iff l, fun hlong => ?_, fun hout => ?_, fun hmin hmax => ?_, rfl,
    hflags.excCode, hflags.fcMismatch,
    fun t hslave hfc hrx => ⟨State.err_verify_congr hslave hfc hrx, State.verify_congr hslave hfc hrx⟩⟩
  · rw [s.err_verify, if_neg (by omega), if_pos hlong]
  · rw [s.rxcrc_verify, if_neg (by omega)]
  · rw [s.rxcrc_verify, if_pos ⟨hmin, hmax⟩, s.err_verify_of_frame hmin hmax]
    refine ⟨rfl, ?_, fun hcrc => ⟨?_, fun haddr => ?_⟩⟩
    · split_ifs with hcrc <;> simp [hcrc]
    · rw [if_neg (not_not.mpr hcrc)]
      split_ifs with haddr <;> simp [haddr]
    · rw [if_neg (not_not.mpr hcrc), if_neg (not_not.mpr haddr)]
      change (_ ↔ s.rxAt 1 = exceptionCodeOf s.txfc ∧ _) ∧ (_ ↔ s.rxAt 1 = exceptionCodeOf s.txfc ∧ _) ∧
        (_ ↔ s.rxAt 1 ≠ exceptionCodeOf s.txfc)
      by_cases hexc : s.rxAt 1 = exceptionCodeOf s.txfc
      · by_cases hlen : l = 5 <;> simp [hexc, hlen]
      · simp [hexc]

/-! ### The request frame -/

/-- Settles O16: txByte lists the frame, whose layout is the definition's. -/
theorem requestFrameLayout : Obligations.RequestFrameLayout :=
  fun s _ => ⟨s.txFrame_eq_map_txByte.symm, rfl, s.length_txFrame⟩

/-- The frame that an encoding leaves carries its own CRC (42_codec.md R140, R141). -/
theorem State.txFrame_encodeCrc (s : State) : s.encodeCrc.txFrame = s.txBody ++ crcWire (crc16 s.txBody) := rfl

/-! ### ENCODE and DECODE -/

/-- Completing an idle block with a code that is no transport error writes the result only (60_exceptions.md R221, R226). -/
theorem State.complete_of_idle {s : State} {e : ErrCode} (hp : s.phase = .idle) (he : e.alwaysTransport = false) :
    s.complete e = { s with err := e, done := true, pendingStart := false, deadline := 0 } := by
  have hkeeps : e.invalidates s.phase = false := by rw [ErrCode.invalidates_of_ne_rx (by simp [hp]), he]
  simpa [State.complete, hkeeps] using hp.symm

/-- While BUSY or with no SLAVE both commands are refused (42_codec.md R150, R151). -/
theorem exec_codec_refused {i : Instr} (hi : i = .encode ∨ i = .decode) {s : State}
    (h : s.phase ≠ .idle ∨ s.slaveSet = false) : exec i s = .next s.markReject := by
  have hr : s.refuses true = true := (s.refuses_iff true).mpr (by simpa using h)
  obtain rfl | rfl := hi
  · exact if_pos hr
  · exact if_pos hr

section
variable {s : State} (hp : s.phase = .idle) (hs : s.slaveSet = true)
include hp hs

theorem State.not_refuses : ¬s.refuses true = true := by
  simp [State.refuses_iff, hp, hs]

theorem exec_encode_of_long (hlong : s.txlen.toNat > 252) : exec .encode s = .next (s.accept.complete .payloadTooLong) := by
  have hrun : s.accept.runEncode = s.accept.complete .payloadTooLong := if_pos (decide_eq_true hlong)
  rw [exec, execEncode, if_neg (State.not_refuses hp hs), hrun]

theorem exec_encode_of_fits (hfits : s.txlen.toNat ≤ 252) : exec .encode s = .next (s.accept.encodeCrc.complete .ok) := by
  have hrun : s.accept.runEncode = s.accept.encodeCrc.complete .ok := if_neg (by simpa [State.payloadTooLong] using hfits)
  rw [exec, execEncode, if_neg (State.not_refuses hp hs), hrun]

theorem exec_decode_of_idle : exec .decode s = .next (s.accept.completeVerify s.rxlen.toNat) :=
  if_neg (State.not_refuses hp hs)

end

/-- The code of a DECODE is verify's on the state before it, for accept() touches nothing that verify reads. -/
theorem State.err_verify_accept (s : State) (l : Nat) : (s.accept.verify l).err = (s.verify l).err :=
  State.err_verify_congr rfl rfl fun _ _ => rfl

/-! ### The obligations on the commands -/

/-- Settles O15: an ENCODE that is not refused completes in IDLE. -/
theorem encodeCommandResult : Obligations.EncodeCommandResult := by
  refine ⟨rfl, fun s => ⟨exec_codec_refused (.inl rfl), fun hp hs hlong => ?_, fun hp hs hfits => ?_⟩⟩
  · rw [exec_encode_of_long hp hs hlong, State.complete_of_idle (s := s.accept) hp rfl]
    rfl
  · rw [exec_encode_of_fits hp hs hfits, State.complete_of_idle (s := s.accept.encodeCrc) hp rfl]
    rfl

/-- Settles O17: the frame is followed by its CRC, which leaves 0. -/
theorem encodedFramePassesItsCheck : Obligations.EncodedFramePassesItsCheck := by
  intro s hp hs hfits
  have hresidue : crc16 (s.accept.encodeCrc.complete .ok).txFrame = 0 := crc16_append_crcWire s.txBody
  exact ⟨_, exec_encode_of_fits hp hs hfits, (crcPasses_iff_residue (by simp)).mpr hresidue, hresidue⟩

/-- Settles O19: a DECODE that is not refused completes in IDLE, with a code that is no transport error. -/
theorem decodeCommandResult : Obligations.DecodeCommandResult := by
  refine ⟨rfl, fun s => ⟨exec_codec_refused (.inr rfl), fun hp hs => ?_⟩⟩
  have hflags := s.accept.verify_flagsByCode s.rxlen.toNat
  rw [exec_decode_of_idle hp hs, State.completeVerify,
    State.complete_of_idle (s := s.accept.applyVerdict _) hp (State.verify_not_transport _ _), State.applyVerdict,
    hflags.excCode, hflags.fcMismatch, State.rxcrc_verify, State.err_verify_accept, State.accept_fcMismatch,
    Bool.if_false_right, ← Bool.decide_and]
  rfl

end Sys2Proof.Machine
end

section
/-! PROOFS. decode(encode(p, a)) = p, run through the host bus (42_codec.md R152): what the host's loads leave in the two
buffers, the frame that ENCODE leaves, and what DECODE says of that frame in RXBUF. -/

namespace Sys2Proof.Machine

/-! ### Bytes written to consecutive entries -/

/-- Writing bytes to the entries from `i` on, one after the other. -/
def Memory.writeAll (m : Memory) (i : Nat) (bytes : List Byte) : Memory :=
  match bytes with
  | [] => m
  | b :: rest => (m.write i b).writeAll (i + 1) rest

theorem Memory.read_writeAll_of_lt (draw : Nat → Byte) (m : Memory) {i k : Nat} (hk : k < i) (bytes : List Byte) :
    (m.writeAll i bytes).read draw k = m.read draw k := by
  induction bytes generalizing m i with
  | nil => rfl
  | cons b rest ih => rw [Memory.writeAll, ih _ (Nat.lt_succ_of_lt hk), Memory.read_write, if_neg hk.ne]

/-- The entries written read back as the bytes. -/
theorem Memory.map_read_writeAll (draw : Nat → Byte) (m : Memory) (i : Nat) (bytes : List Byte) :
    (List.range' i bytes.length).map ((m.writeAll i bytes).read draw) = bytes := by
  induction bytes generalizing m i with
  | nil => rfl
  | cons b rest ih =>
    have hhead : ((m.write i b).writeAll (i + 1) rest).read draw i = b := by
      rw [Memory.read_writeAll_of_lt draw _ (Nat.lt_succ_self i), Memory.read_write, if_pos rfl]
    rw [List.length_cons, List.range'_succ, List.map_cons, Memory.writeAll, hhead, ih]

/-! ### Runs of host writes to an idle block -/

/-- A value sent in a host word is stored as it was (20_memory.md R68, R70). -/
theorem extractLsb'_zeroExtend {w : Nat} (x : BitVec w) (hw : w ≤ 32) : (x.zeroExtend 32).extractLsb' 0 w = x := by
  apply BitVec.eq_of_getLsbD_eq
  intro i hi
  simp [hi, show i < 32 by omega]

theorem extractLsb'_ofNat (n : Nat) {w : Nat} (hw : w ≤ 32) : (BitVec.ofNat 32 n).extractLsb' 0 w = BitVec.ofNat w n := by
  apply BitVec.eq_of_toNat_eq
  rw [BitVec.extractLsb'_toNat, BitVec.toNat_ofNat, BitVec.toNat_ofNat, Nat.shiftRight_zero,
    Nat.mod_mod_of_dvd _ (Nat.pow_dvd_pow 2 hw)]

/-- The stores of a load: byte after byte to the targets `entry i`, `entry (i + 1)` and so on. -/
def State.storeAll (entry : Nat → BusTarget) (s : State) (i : Nat) (bytes : List Byte) : State :=
  match bytes with
  | [] => s
  | b :: rest => State.storeAll entry (s.storeTarget (entry i) (b.zeroExtend 32)) (i + 1) rest

theorem State.storeAll_txbuf (s : State) (i : Nat) (bytes : List Byte) :
    s.storeAll .txbuf i bytes = { s with txbuf := s.txbuf.writeAll i bytes } := by
  induction bytes generalizing s i with
  | nil => rfl
  | cons b rest ih => rw [State.storeAll, ih, State.storeTarget, extractLsb'_zeroExtend b (by decide)]; rfl

theorem State.storeAll_rxbuf (s : State) (i : Nat) (bytes : List Byte) :
    s.storeAll .rxbuf i bytes = { s with rxbuf := s.rxbuf.writeAll i bytes } := by
  induction bytes generalizing s i with
  | nil => rfl
  | cons b rest ih => rw [State.storeAll, ih, State.storeTarget, extractLsb'_zeroExtend b (by decide)]; rfl

theorem State.storeTarget_withInputs (s : State) (es : List Event) (tgt : BusTarget) (v : Word) :
    State.storeTarget { s with inputs := es } tgt v = { s.storeTarget tgt v with inputs := es } := by
  cases tgt with
  | reg r => cases r <;> rfl
  | txbuf | rxbuf | unmapped => rfl

/-- In a run, a write to an idle block leaves the run of the other events from the state that stored it. -/
theorem State.runEvents_store {s : State} (hp : s.phase = .idle) {a : HostAddr} {tgt : BusTarget} (ha : busTarget a = tgt)
    (ht : tgt ≠ .reg .cmd) (v : Word) (es : List Event) :
    s.runEvents (.hostWrite a v :: es) = (s.storeTarget tgt v).runEvents es := by
  have h := handleEvent_hostWrite_of_idle ha ht (s := { s with inputs := es }) hp v
  rw [State.storeTarget_withInputs] at h
  exact (runEvents_cons h rfl).trans rfl

theorem State.runEvents_wr {s : State} (hp : s.phase = .idle) {r : Reg} (hr : r ≠ .cmd) (v : Word) (es : List Event) :
    s.runEvents (wrEvent (.reg r) v :: es) = (s.storeReg r v).runEvents es :=
  State.runEvents_store hp (busTarget_offset r) (by simpa using hr) v es

/-- The writes of a load to the buffer at `base`, whose entries are the targets `entry i`. -/
theorem State.runEvents_fillEvents {base : Nat} {entry : Nat → BusTarget}
    (hentry : ∀ i < 256, busTarget (BitVec.ofNat 12 (base + 4 * i)) = entry i) (hcmd : ∀ i, entry i ≠ .reg .cmd)
    (bytes : List Byte) (es : List Event) {s : State} (hp : s.phase = .idle) {i : Nat} (hfit : i + bytes.length ≤ 256) :
    s.runEvents (fillEvents base i bytes ++ es) = (s.storeAll entry i bytes).runEvents es := by
  induction bytes generalizing s i with
  | nil => rfl
  | cons b rest ih =>
    rw [List.length_cons] at hfit
    have hstore : (s.storeTarget (entry i) (b.zeroExtend 32)).phase = .idle := by
      rw [← onStore_of_idle hp, (onStore_keeps_link _ _ s).2, hp]
    rw [fillEvents, List.cons_append, State.runEvents_store hp (hentry i (by omega)) (hcmd i), ih hstore (by omega),
      State.storeAll]

/-- A command at the end of a program runs with no input to come. -/
theorem State.runEvents_command (s : State) (i : Instr) : s.runEvents [commandEvent i] = exec i { s with inputs := [] } := by
  obtain ⟨t, ht⟩ := exec_answers_next i { s with inputs := [] }
  have hin : t.inputs = [] := (exec_effect ht).inputs
  have hrun : handleEvent (commandEvent i) { s with inputs := [] } = .next t :=
    (handleEvent_of_commands ⟨_, _, rfl, busTarget_offset .cmd, decode_encode i⟩ _).trans ht
  rw [runEvents_cons hrun hin, runEvents_nil, ht, ← hin]

/-! ### The two programs -/

/-- An idle block after the host has loaded an address and a PDU. -/
def State.withRequest (s : State) (a fc : Byte) (d : List Byte) : State :=
  { s with
    slave := a
    slaveSet := true
    txfc := fc
    txlen := BitVec.ofNat 16 d.length
    txbuf := s.txbuf.writeAll 0 d
    inputs := [] }

/-- An idle block after the host has loaded a received frame. -/
def State.withFrame (s : State) (frame : List Byte) : State :=
  { s with
    rxlen := BitVec.ofNat 9 frame.length
    rxbuf := s.rxbuf.writeAll 0 frame
    inputs := [] }

theorem State.toNat_txlen_withRequest (s : State) (a fc : Byte) {d : List Byte} (hd : d.length ≤ 252) :
    (s.withRequest a fc d).txlen.toNat = d.length :=
  Nat.mod_eq_of_lt (by omega)

theorem State.toNat_rxlen_withFrame (s : State) {frame : List Byte} (hf : frame.length ≤ 256) :
    (s.withFrame frame).rxlen.toNat = frame.length :=
  Nat.mod_eq_of_lt (by omega)

theorem State.txBytes_withRequest (s : State) (a fc : Byte) (d : List Byte) : (s.withRequest a fc d).txBytes d.length = d := by
  rw [State.txBytes, List.range_eq_range']
  exact Memory.map_read_writeAll _ _ _ _

theorem State.rxBytes_withFrame (s : State) (frame : List Byte) : (s.withFrame frame).rxBytes frame.length = frame := by
  rw [State.rxBytes, List.range_eq_range']
  exact Memory.map_read_writeAll _ _ _ _

/-- The host's loads leave the request, on which ENCODE then runs. -/
theorem State.runLines_encode {s : State} (hp : s.phase = .idle) (a fc : Byte) {d : List Byte} (hd : d.length ≤ 252) :
    s.runLines [.wr (.reg .slave) (a.zeroExtend 32), .loadPdu fc d, .command .encode] =
      exec .encode (s.withRequest a fc d) := by
  have hevents : asmEvents [.wr (.reg .slave) (a.zeroExtend 32), .loadPdu fc d, .command .encode] =
      wrEvent (.reg .slave) (a.zeroExtend 32) :: wrEvent (.reg .txfc) (fc.zeroExtend 32) ::
        wrEvent (.reg .txlen) (BitVec.ofNat 32 d.length) :: (fillEvents 0x400 0 d ++ [commandEvent .encode]) := by
    simp [asmEvents, AsmLine.events]
  rw [State.runLines, hevents, State.runEvents_wr hp (by decide), State.runEvents_wr (by exact hp) (by decide),
    State.runEvents_wr (by exact hp) (by decide),
    State.runEvents_fillEvents busTarget_txbuf (by simp) _ _ (by exact hp) (by omega), State.runEvents_command,
    State.storeAll_txbuf]
  simp only [State.storeReg, extractLsb'_zeroExtend a (by decide), extractLsb'_zeroExtend fc (by decide),
    extractLsb'_ofNat d.length (w := 16) (by decide), State.withRequest]

/-- The host's loads leave the frame, on which DECODE then runs. -/
theorem State.runLines_decode {s : State} (hp : s.phase = .idle) {frame : List Byte} (hf : frame.length ≤ 256) :
    s.runLines [.loadRx frame, .command .decode] = exec .decode (s.withFrame frame) := by
  have hevents : asmEvents [.loadRx frame, .command .decode] =
      fillEvents 0x800 0 frame ++ [wrEvent (.reg .rxlen) (BitVec.ofNat 32 frame.length), commandEvent .decode] := by
    simp [asmEvents, AsmLine.events]
  rw [State.runLines, hevents, State.runEvents_fillEvents busTarget_rxbuf (by simp) _ _ hp (by omega),
    State.storeAll_rxbuf, State.runEvents_wr (by exact hp) (by decide), State.runEvents_command, State.storeReg,
    extractLsb'_ofNat _ (by decide)]
  rfl

/-! ### A whole frame in RXBUF -/

/-- The frame of a PDU and an address (42_codec.md R140, R141). -/
def frameOf (a fc : Byte) (d : List Byte) : List Byte :=
  (a :: fc :: d) ++ crcWire (crc16 (a :: fc :: d))

@[simp] theorem length_frameOf (a fc : Byte) (d : List Byte) : (frameOf a fc d).length = d.length + 4 := by
  simp [frameOf, crcWire]

theorem State.txFrame_encode_withRequest (s : State) (a fc : Byte) {d : List Byte} (hd : d.length ≤ 252) :
    (s.withRequest a fc d).encodeCrc.txFrame = frameOf a fc d := by
  have hbody : (s.withRequest a fc d).txBody = a :: fc :: d := by
    have hdata : (s.withRequest a fc d).txBytes (s.withRequest a fc d).txlen.toNat = d := by
      rw [s.toNat_txlen_withRequest a fc hd]
      exact s.txBytes_withRequest a fc d
    exact congrArg ([a, fc] ++ ·) hdata
  rw [State.txFrame_encodeCrc, hbody, frameOf]

section
variable {s : State} {a fc : Byte} {d : List Byte} (h : s.rxBytes (d.length + 4) = frameOf a fc d)
include h

/-- The bytes before the CRC, and the CRC. -/
theorem State.rxBytes_of_frame :
    s.rxBytes (d.length + 2) = a :: fc :: d ∧
      [s.rxAt (d.length + 2), s.rxAt (d.length + 3)] = crcWire (crc16 (a :: fc :: d)) := by
  rw [State.rxBytes_succ, State.rxBytes_succ, List.append_assoc, frameOf] at h
  exact List.append_inj h (by simp)

theorem State.rxAt_of_frame : s.rxAt 0 = a ∧ s.rxAt 1 = fc := by
  have hbody := (State.rxBytes_of_frame h).1
  have hat (i : Nat) (hi : i < d.length + 2) : some (s.rxAt i) = (a :: fc :: d)[i]? := by
    rw [← hbody, State.rxBytes, List.getElem?_map, List.getElem?_range hi, Option.map_some]
  exact ⟨Option.some.inj (hat 0 (by omega)), Option.some.inj (hat 1 (by omega))⟩

theorem State.pduView_of_frame : s.pduView (d.length + 4) = ⟨fc, d⟩ := by
  have hbody : s.rxBytes (d.length + 4 - 2) = a :: fc :: d := (State.rxBytes_of_frame h).1
  rw [State.pduView, hbody, (State.rxAt_of_frame h).2]
  rfl

/-- The trailing two bytes are the CRC of the others (40_crc.md R102). -/
theorem State.crc_of_frame : crc16 (s.rxBytes (d.length + 2)) = le16 (s.rxAt (d.length + 2)) (s.rxAt (d.length + 3)) := by
  obtain ⟨hbody, hcrc⟩ := State.rxBytes_of_frame h
  simp only [crcWire, List.cons.injEq, and_true] at hcrc
  rw [hbody, hcrc.1, hcrc.2, le16_crcLow_crcHigh]

end

/-- A function code is its own exception code when its top bit is set (41_length_dispatch.md R123). -/
theorem eq_exceptionCodeOf_iff (q : Byte) : q = exceptionCodeOf q ↔ 0x80 ≤ q.toNat := by
  revert q
  decide

/-- The code for a block's own request frame: OK, or what R147 makes of a function code that is an exception's. -/
theorem State.err_verify_of_ownFrame {s : State} {d : List Byte} (hd : d.length ≤ 252)
    (h : s.rxBytes (d.length + 4) = frameOf s.slave s.txfc d) :
    (s.verify (d.length + 4)).err =
      if 0x80 ≤ s.txfc.toNat then if d.length = 1 then .exceptionResponse else .lengthError else .ok := by
  obtain ⟨haddr, hfc⟩ := State.rxAt_of_frame h
  have hcrc : crc16 (s.rxBytes (d.length + 4 - 2)) = le16 (s.rxAt (d.length + 4 - 2)) (s.rxAt (d.length + 4 - 1)) :=
    State.crc_of_frame h
  rw [s.err_verify_of_frame (by omega) (by omega), if_neg (not_not.mpr hcrc), if_neg (not_not.mpr haddr), hfc, ite_not]
  have hone : d.length + 4 = 5 ↔ d.length = 1 := by omega
  simp only [eq_exceptionCodeOf_iff, hone]

/-- DECODE of the block's own frame: the PDU view is the PDU, and the function code is no mismatch (42_codec.md R152). -/
theorem State.completeVerify_of_ownFrame {s : State} {d : List Byte} (hd : d.length ≤ 252)
    (hlen : s.rxlen.toNat = d.length + 4) (h : s.rxBytes (d.length + 4) = frameOf s.slave s.txfc d) {v : State}
    (hv : v = s.accept.completeVerify s.rxlen.toNat) :
    v.pduView v.rxlen.toNat = ⟨s.txfc, d⟩ ∧ v.fcMismatch = false ∧
      v.err = if 0x80 ≤ s.txfc.toNat then if d.length = 1 then .exceptionResponse else .lengthError else .ok := by
  subst hv
  refine ⟨(congrArg s.pduView hlen).trans (State.pduView_of_frame h), ?_, ?_⟩
  · have hsame : decide (s.accept.rxAt 1 ≠ s.accept.txfc) = false := decide_eq_false (not_not.mpr (State.rxAt_of_frame h).2)
    refine (s.accept.verify_flagsByCode s.rxlen.toNat).fcMismatch.trans ?_
    rw [hsame, State.accept_fcMismatch, ite_self]
  · refine (s.err_verify_accept s.rxlen.toNat).trans ?_
    rw [hlen, State.err_verify_of_ownFrame hd h]

/-! ### The two programs, run to the end -/

theorem State.encodeProgram_leaves_frame {s : State} (hp : s.phase = .idle) (a fc : Byte) {d : List Byte}
    (hd : d.length ≤ 252) :
    ∃ t, s.runLines [.wr (.reg .slave) (a.zeroExtend 32), .loadPdu fc d, .command .encode] = .next t ∧
      t.phase = .idle ∧ t.slaveSet = true ∧ t.slave = a ∧ t.txfc = fc ∧ t.err = .ok ∧ t.txFrame = frameOf a fc d := by
  have hfits : (s.withRequest a fc d).txlen.toNat ≤ 252 := (s.toNat_txlen_withRequest a fc hd).trans_le hd
  exact ⟨_, (State.runLines_encode hp a fc hd).trans (exec_encode_of_fits (s := s.withRequest a fc d) hp rfl hfits), rfl, rfl,
    rfl, rfl, rfl, s.txFrame_encode_withRequest a fc hd⟩

theorem State.decodeProgram_recovers_pdu {s : State} (hp : s.phase = .idle) (hs : s.slaveSet = true) {d : List Byte}
    (hd : d.length ≤ 252) :
    ∃ v, s.runLines [.loadRx (frameOf s.slave s.txfc d), .command .decode] = .next v ∧
      v.pduView v.rxlen.toNat = ⟨s.txfc, d⟩ ∧ v.fcMismatch = false ∧
      v.err = if 0x80 ≤ s.txfc.toNat then if d.length = 1 then .exceptionResponse else .lengthError else .ok := by
  have hframe := length_frameOf s.slave s.txfc d
  have hmax : (frameOf s.slave s.txfc d).length ≤ 256 := by omega
  have hheld := s.rxBytes_withFrame (frameOf s.slave s.txfc d)
  rw [hframe] at hheld
  exact ⟨_, (State.runLines_decode hp hmax).trans (exec_decode_of_idle (s := s.withFrame _) hp hs),
    State.completeVerify_of_ownFrame hd ((s.toNat_rxlen_withFrame hmax).trans hframe) hheld rfl⟩

/-- Settles O20: ENCODE leaves the frame of the loaded PDU and address, and DECODE finds the PDU in that frame. -/
theorem encodeThenDecodeIsIdentity : Obligations.EncodeThenDecodeIsIdentity := by
  intro s a fc d hp hd
  obtain ⟨t, hencode, hidle, hset, rfl, rfl, hok, hframe⟩ := State.encodeProgram_leaves_frame hp a fc hd
  obtain ⟨v, hdecode, hview, hmis, herr⟩ := State.decodeProgram_recovers_pdu hidle hset hd
  refine ⟨t, v, hencode, hok, hframe ▸ hdecode, hview, fun hlow => ⟨?_, hmis⟩, fun hhigh => ?_⟩
  · rw [herr, if_neg (Nat.not_le.mpr hlow)]
  · rw [herr, if_pos hhigh]

end Sys2Proof.Machine
end

section
/-! PROOFS. The engine commands in every state (43_transport.md R172 to R175): refused, which sets REJECT only, or accepted in
IDLE, where each clears the previous result and runs. -/

namespace Sys2Proof.Machine

/-! ### Refusal and acceptance -/

/-- The commands that R172 may refuse. -/
def IsEngineCommand (i : Instr) : Prop :=
  i = .encode ∨ i = .decode ∨ i = .start ∨ i = .connect ∨ i = .close

/-- `cmd in {ENCODE, DECODE, START}`: the commands that need SLAVE_SET (R172). -/
def needsSlave (i : Instr) : Bool :=
  i ∈ [.encode, .decode, .start]

theorem needsSlave_iff (i : Instr) : needsSlave i = true ↔ i = .encode ∨ i = .decode ∨ i = .start := by
  simp [needsSlave]

/-- What an engine command does once accepted (42_codec.md R150, R151, 43_transport.md R173 to R175). -/
def runAccepted (i : Instr) (s : State) : State :=
  match i with
  | .encode => s.accept.runEncode
  | .decode => s.accept.completeVerify s.rxlen.toNat
  | .start => s.accept.runStart
  | .connect => s.accept.runConnect
  | .close => s.accept.runClose
  | _ => s

theorem exec_engine {i : Instr} (hi : IsEngineCommand i) (s : State) :
    exec i s = if s.refuses (needsSlave i) then .next s.markReject else .next (runAccepted i s) := by
  obtain rfl | rfl | rfl | rfl | rfl := hi <;> rfl

theorem exec_refused {i : Instr} (hi : IsEngineCommand i) {s : State}
    (h : s.phase ≠ .idle ∨ ((i = .encode ∨ i = .decode ∨ i = .start) ∧ s.slaveSet = false)) :
    exec i s = .next s.markReject := by
  rw [← needsSlave_iff] at h
  rw [exec_engine hi, if_pos ((s.refuses_iff _).mpr h)]

theorem exec_accepted {i : Instr} (hi : IsEngineCommand i) {s : State} (hp : s.phase = .idle)
    (hs : i = .encode ∨ i = .decode ∨ i = .start → s.slaveSet = true) : exec i s = .next (runAccepted i s) := by
  have hn : ¬s.refuses (needsSlave i) = true := by
    simpa [State.refuses_iff, needsSlave_iff, hp] using hs
  rw [exec_engine hi, if_neg hn]

/-- No command that runs touches REJECT (R172). -/
theorem reject_runAccepted (i : Instr) (s : State) : (runAccepted i s).reject = s.reject := by
  cases i with
  | nop | crcInit | crcByte | crcVerify | decode => rfl
  | encode => simp only [runAccepted, State.runEncode]; split_ifs <;> rfl
  | start => simp only [runAccepted, State.runStart, State.beginExchange]; split_ifs <;> rfl
  | connect => simp only [runAccepted, State.runConnect]; split_ifs <;> rfl
  | close => simp only [runAccepted, State.runClose]; split_ifs <;> rfl

/-- Settles O24: a host command keeps its whole result, REJECT included. -/
theorem engineCommandsRefused : Obligations.EngineCommandsRefused := by
  refine fun s i => ⟨fun hi => ⟨exec_refused hi, fun hp hs => ?_⟩, fun hi => ?_⟩
  · exact ⟨_, exec_accepted hi hp hs, reject_runAccepted i s⟩
  · obtain ⟨t, ht⟩ := exec_answers_next i s
    obtain ⟨-, -, -, hreject, -⟩ := (exec_frame ht).result hi
    exact ⟨t, ht, hreject⟩

/-! ### START -/

theorem State.runStart_of_long {s : State} (h : s.txlen.toNat > 252) : s.runStart = s.complete .payloadTooLong :=
  if_pos (decide_eq_true h)

theorem State.runStart_of_fits {s : State} (h : s.txlen.toNat ≤ 252) : s.runStart = s.beginExchange :=
  if_neg (by simpa [State.payloadTooLong] using h)

theorem State.beginExchange_of_unlinked {s : State} (h : s.link = false) :
    s.beginExchange = s.encodeCrc.rewind.armDeadline.dial true :=
  if_neg (by simp [h])

theorem State.beginExchange_of_linked {s : State} (h : s.link = true) :
    s.beginExchange = s.encodeCrc.rewind.armDeadline.enterTx :=
  if_pos h

/-- Settles O25: an accepted START whose payload fits dials or sends, by LINK. -/
theorem startCommandResult : Obligations.StartCommandResult := by
  have hi : IsEngineCommand .start := by simp [IsEngineCommand]
  refine ⟨rfl, fun s => ⟨fun h => exec_refused hi (by simpa using h), fun hp hs hlong => ?_,
    fun hp hs hfits hl => ?_, fun hp hs hfits hl => ?_⟩⟩ <;> rw [exec_accepted hi hp fun _ => hs, runAccepted]
  · rw [State.runStart_of_long (s := s.accept) hlong, State.complete_of_idle (s := s.accept) hp rfl]
    rfl
  · rw [State.runStart_of_fits (s := s.accept) hfits, State.beginExchange_of_unlinked (s := s.accept) hl]
    rfl
  · rw [State.runStart_of_fits (s := s.accept) hfits, State.beginExchange_of_linked (s := s.accept) hl]
    rfl

/-! ### CONNECT and CLOSE -/

theorem State.runConnect_of_linked {s : State} (h : s.link = true) : s.runConnect = s.complete .ok :=
  if_pos h

theorem State.runConnect_of_unlinked {s : State} (h : s.link = false) : s.runConnect = s.armDeadline.dial false :=
  if_neg (by simp [h])

/-- Settles O26: an accepted CONNECT completes at once or dials, by LINK. -/
theorem connectCommandResult : Obligations.ConnectCommandResult := by
  have hi : IsEngineCommand .connect := by simp [IsEngineCommand]
  refine ⟨rfl, fun s => ⟨fun h => exec_refused hi (.inl h), fun hp hl => ?_, fun hp hl => ?_⟩⟩ <;>
    rw [exec_accepted hi hp (by simp), runAccepted]
  · rw [State.runConnect_of_linked (s := s.accept) hl, State.complete_of_idle (s := s.accept) hp rfl]
    rfl
  · rw [State.runConnect_of_unlinked (s := s.accept) hl]
    rfl

theorem State.runClose_of_linked {s : State} (h : s.link = true) : s.runClose = s.hangUp.complete .ok :=
  if_pos h

theorem State.runClose_of_unlinked {s : State} (h : s.link = false) : s.runClose = s.complete .ok :=
  if_neg (by simp [h])

/-- Settles O27: where a link was, CLOSE hangs up before it completes. -/
theorem closeCommandResult : Obligations.CloseCommandResult := by
  have hi : IsEngineCommand .close := by simp [IsEngineCommand]
  refine ⟨rfl, fun s => ⟨fun h => exec_refused hi (.inl h), fun hp => ?_⟩⟩
  rw [exec_accepted hi hp (by simp), runAccepted]
  cases hl : s.link with
  | true =>
    rw [State.runClose_of_linked (s := s.accept) hl, State.complete_of_idle (s := s.accept.hangUp) hp rfl]
    rfl
  | false =>
    rw [State.runClose_of_unlinked (s := s.accept) hl, State.complete_of_idle (s := s.accept) hp rfl, State.accept, hl]
    rfl

end Sys2Proof.Machine
end

section
/-! PROOFS. The environment's events outside RX (43_transport.md R176 to R185, R192): the ones with no effect, the link events
in every phase, and the Ticks of a deadline. -/

namespace Sys2Proof.Machine

/-! ### Events with no effect -/

theorem handleEvent_txPull_of_ne_tx {s : State} (hp : s.phase ≠ .tx) : handleEvent .txPull s = .next s :=
  if_pos hp

/-- A byte outside RX only sets EXCESS (R179). -/
theorem handleEvent_rxByte_of_ne_rx {s : State} (hp : s.phase ≠ .rx) (b : Byte) :
    handleEvent (.rxByte b) s = .next s.markExcess :=
  if_pos hp

/-- Only a block that dials takes the link layer's answer (R181, R182). -/
theorem handleEvent_answer_of_ne_connecting {s : State} (hp : s.phase ≠ .connecting) :
    handleEvent .connectOk s = .next s ∧ handleEvent .connectFail s = .next s :=
  ⟨congrArg Host.Outcome.next (if_pos hp), congrArg Host.Outcome.next (if_neg hp)⟩

theorem handleEvent_linkDown_of_idle {s : State} (hp : s.phase = .idle) :
    handleEvent .linkDown s = .next { s with link := false } := by
  rw [handleEvent, onLinkDown, hp]

/-- While IDLE, or with no deadline armed, Ticks do not count (R184). -/
theorem handleEvent_tick_of_unarmed {s : State} (h : s.phase = .idle ∨ s.deadline = 0) : handleEvent .tick s = .next s :=
  congrArg Host.Outcome.next (if_pos h)

/-- Settles O34: a byte outside RX ends at the phase test. -/
theorem strayByteOnlySetsExcess : Obligations.StrayByteOnlySetsExcess :=
  fun _ b hp => handleEvent_rxByte_of_ne_rx hp b

/-- Settles O35: one law above for each event. -/
theorem eventsWithNoEffect : Obligations.EventsWithNoEffect :=
  fun _ => ⟨handleEvent_txPull_of_ne_tx, handleEvent_answer_of_ne_connecting, handleEvent_tick_of_unarmed,
    handleEvent_rxByte_of_ne_rx, handleEvent_linkDown_of_idle⟩

/-- Settles O29: the byte on offer is the one that the TxPull hands over. -/
theorem txPullHandsOverNextByte : Obligations.TxPullHandsOverNextByte :=
  fun _ => ⟨handleEvent_txPull_of_lt, handleEvent_txPull_of_last, handleEvent_txPull_of_ne_tx, beq_iff_eq, rfl⟩

/-! ### The link events -/

/-- Completing with an error that invalidates drops the link and hangs up once (60_exceptions.md R221, R226). -/
theorem State.complete_of_invalidates {s : State} {e : ErrCode} (h : e.invalidates s.phase = true) :
    s.complete e = { s with
      err := e, done := true, link := false, outputs := s.outputs ++ [.hangup], phase := .idle, pendingStart := false,
      deadline := 0 } := by
  simp [State.complete, h]

/-- Completing with any other code leaves LINK and the outputs (60_exceptions.md R222, R226). -/
theorem State.complete_of_not_invalidates {s : State} {e : ErrCode} (h : e.invalidates s.phase = false) :
    s.complete e = { s with err := e, done := true, phase := .idle, pendingStart := false, deadline := 0 } := by
  simp [State.complete, h]

/-- The error that a lost link gives a busy block (R183). -/
def linkDownError (p : Phase) : ErrCode :=
  if p = .connecting then .connectionError else if p = .tx then .writeError else .readError

theorem linkDownError_invalidates (p q : Phase) : (linkDownError p).invalidates q = true := by
  unfold linkDownError
  split_ifs <;> rfl

theorem onLinkDown_of_busy {s : State} (hp : s.phase ≠ .idle) : onLinkDown s = s.complete (linkDownError s.phase) := by
  unfold onLinkDown
  cases hs : s.phase with
  | idle => exact absurd hs hp
  | connecting | tx | rx => rfl

theorem onConnectOk_of_pending {s : State} (hp : s.phase = .connecting) (hpend : s.pendingStart = true) :
    onConnectOk s = s.linkUpForStart := by
  rw [onConnectOk, if_neg (not_not.mpr hp), if_pos hpend]

theorem onConnectOk_of_not_pending {s : State} (hp : s.phase = .connecting) (hpend : s.pendingStart = false) :
    onConnectOk s = { s with link := true }.complete .ok := by
  rw [onConnectOk, if_neg (not_not.mpr hp), hpend]
  rfl

theorem onConnectFail_of_connecting {s : State} (hp : s.phase = .connecting) :
    onConnectFail s = s.complete .connectionError :=
  if_pos hp

/-- Settles O36: in each phase an event moves on, completes, or has no effect. -/
theorem linkEventResults : Obligations.LinkEventResults := by
  refine fun s => ⟨fun hp hpend => ?_, fun hp hpend => ?_, handleEvent_answer_of_ne_connecting, fun hp => ?_,
    handleEvent_linkDown_of_idle, fun hp => ?_⟩ <;> refine congrArg Host.Outcome.next ?_
  · exact onConnectOk_of_pending hp hpend
  · rw [onConnectOk_of_not_pending hp hpend, State.complete_of_not_invalidates (by rfl), ← hpend]
  · exact (onConnectFail_of_connecting hp).trans (State.complete_of_invalidates rfl)
  · exact (onLinkDown_of_busy hp).trans (State.complete_of_invalidates (linkDownError_invalidates _ _))

/-! ### The deadline -/

/-- The error of a deadline that expires on a busy block (R185). -/
def expiryError (p : Phase) : ErrCode :=
  if p = .connecting then .connectionError else .timeoutError

theorem expiryError_invalidates (p q : Phase) : (expiryError p).invalidates q = true := by
  unfold expiryError
  split_ifs <;> rfl

theorem State.expire_of_busy {s : State} (hp : s.phase ≠ .idle) : s.expire = s.complete (expiryError s.phase) := by
  unfold State.expire
  cases hs : s.phase with
  | idle => exact absurd hs hp
  | connecting | tx | rx => rfl

/-- The last Tick of a deadline ends the command (R184, R185). -/
theorem onTick_of_last {s : State} (hp : s.phase ≠ .idle) (hd : s.deadline = 1) :
    onTick s = s.countDown.complete (expiryError s.phase) := by
  have harmed : ¬(s.phase = .idle ∨ s.deadline = 0) := by simp [hp, hd]
  have hlast : s.countDown.deadline = 0 := by simp [State.countDown, hd]
  rw [onTick, if_neg harmed, if_pos hlast]
  exact State.expire_of_busy (s := s.countDown) hp

/-- A run of one Tick, the last of the deadline, ends in IDLE with the link dropped (R184, R185). -/
theorem State.runEvents_tick_of_last {s : State} (hp : s.phase ≠ .idle) (hd : s.deadline = 1) :
    s.runEvents [.tick] = .next { s with
      inputs := [], deadline := 0, err := expiryError s.phase, done := true, link := false,
      outputs := s.outputs ++ [.hangup], phase := .idle, pendingStart := false } := by
  have hlast := onTick_of_last (s := { s with inputs := [] }) hp hd
  rw [State.complete_of_invalidates (expiryError_invalidates _ _)] at hlast
  have htick : handleEvent .tick { s with inputs := [] } = .next _ := congrArg Host.Outcome.next hlast
  exact runEvents_cons htick rfl

theorem State.toNat_deadline_countDown {s : State} (hd : 0 < s.deadline.toNat) :
    s.countDown.deadline.toNat = s.deadline.toNat - 1 :=
  BitVec.toNat_sub_of_le (y := 1) hd

/-- A Tick before the last one only counts down (R184). -/
theorem onTick_of_more {s : State} (hp : s.phase ≠ .idle) (hd : 1 < s.deadline.toNat) : onTick s = s.countDown := by
  have hnext := State.toNat_deadline_countDown (Nat.lt_of_succ_lt hd)
  have harmed : ¬(s.phase = .idle ∨ s.deadline = 0) := not_or.mpr ⟨hp, fun h => by simp [h] at hd⟩
  have hmore : s.countDown.deadline ≠ 0 := fun h => by
    have hzero : s.countDown.deadline.toNat = 0 := congrArg BitVec.toNat h
    omega
  rw [onTick, if_neg harmed, if_neg hmore]

/-- In a run, a Tick before the last one leaves the run of the other events from the deadline counted down. -/
theorem State.runEvents_tick_of_more {s : State} (hp : s.phase ≠ .idle) (hd : 1 < s.deadline.toNat) (es : List Event) :
    s.runEvents (.tick :: es) = s.countDown.runEvents es :=
  have htick : handleEvent .tick { s with inputs := es } = .next (State.countDown { s with inputs := es }) :=
    congrArg Host.Outcome.next (onTick_of_more hp hd)
  (runEvents_cons htick rfl).trans rfl

/-- Fewer Ticks than the deadline holds are counted off it, and the rest of the run goes on from there. -/
theorem State.runEvents_ticks_of_lt (k : Nat) (es : List Event) {s : State} (hp : s.phase ≠ .idle)
    (hk : k < s.deadline.toNat) :
    s.runEvents (List.replicate k .tick ++ es) =
      State.runEvents { s with deadline := BitVec.ofNat 32 (s.deadline.toNat - k) } es := by
  induction k generalizing s with
  | zero => simp
  | succ k ih =>
    have hnext : s.countDown.deadline.toNat = s.deadline.toNat - 1 := State.toNat_deadline_countDown (by omega)
    have hleft : s.countDown.deadline.toNat - k = s.deadline.toNat - (k + 1) := by omega
    rw [List.replicate_succ, List.cons_append, State.runEvents_tick_of_more hp (by omega),
      ih (s := s.countDown) hp (by omega), hleft]
    rfl

/-- With no deadline counting, Ticks only are consumed. -/
theorem State.runEvents_ticks_of_unarmed (k : Nat) {s : State} (h : s.phase = .idle ∨ s.deadline = 0) :
    s.runEvents (List.replicate k .tick) = .next { s with inputs := [] } := by
  induction k generalizing s with
  | zero => rfl
  | succ k ih =>
    rw [List.replicate_succ,
      runEvents_cons (handleEvent_tick_of_unarmed (s := { s with inputs := List.replicate k .tick }) h) rfl]
    exact ih (s := { s with inputs := List.replicate k .tick }) h

/-- Settles O37: all Ticks but the last count down to 1, and the last one expires. -/
theorem deadlineExpiresOnLastTick : Obligations.DeadlineExpiresOnLastTick := by
  refine fun s => ⟨fun hp hd => ⟨fun k hk => ?_, ?_⟩, fun h k => State.runEvents_ticks_of_unarmed k h⟩
  · simpa [runEvents_nil] using State.runEvents_ticks_of_lt k [] hp hk
  · obtain ⟨k, hk⟩ : ∃ k, s.deadline.toNat = k + 1 :=
      Nat.exists_eq_succ_of_ne_zero fun h => hd (BitVec.eq_of_toNat_eq h)
    have hone : BitVec.ofNat 32 (s.deadline.toNat - k) = 1 := by rw [hk, Nat.add_sub_cancel_left]; rfl
    rw [hk, List.replicate_succ', State.runEvents_ticks_of_lt k [.tick] hp (by omega), hone]
    exact State.runEvents_tick_of_last (s := { s with deadline := 1 }) hp rfl

end Sys2Proof.Machine
end

section
/-! PROOFS. A byte received in RX (43_transport.md R178, R180): what every such step leaves alone, and the byte that brings
RXLEN to a known RXEXP. -/

namespace Sys2Proof.Machine

/-! ### What the rest of an RxByte step leaves alone -/

/-- What no RxByte in RX writes once its byte is stored: the buffers, RXLEN, the request, the host's registers, the sticky
bits, the parameters and the inputs. -/
structure KeptByReply (u t : State) : Prop where
  rxbuf : t.rxbuf = u.rxbuf
  txbuf : t.txbuf = u.txbuf
  rxlen : t.rxlen = u.rxlen
  irqEn : t.irqEn = u.irqEn
  slave : t.slave = u.slave
  slaveSet : t.slaveSet = u.slaveSet
  timeout : t.timeout = u.timeout
  txfc : t.txfc = u.txfc
  txlen : t.txlen = u.txlen
  txcrc : t.txcrc = u.txcrc
  txpos : t.txpos = u.txpos
  crcAcc : t.crcAcc = u.crcAcc
  crcMatch : t.crcMatch = u.crcMatch
  reject : t.reject = u.reject
  illegal : t.illegal = u.illegal
  excess : t.excess = u.excess
  inputs : t.inputs = u.inputs
  params : t.params = u.params

/-- PHASE, LINK, the deadline, the outputs and every result field but FALLBACK are as they were: the reply goes on. -/
structure ReplyGoesOn (u t : State) : Prop where
  phase : t.phase = u.phase
  link : t.link = u.link
  deadline : t.deadline = u.deadline
  outputs : t.outputs = u.outputs
  done : t.done = u.done
  err : t.err = u.err
  excCode : t.excCode = u.excCode
  fcMismatch : t.fcMismatch = u.fcMismatch
  rxcrc : t.rxcrc = u.rxcrc
  pendingStart : t.pendingStart = u.pendingStart

/-- The engine command has ended (60_exceptions.md R226). -/
structure Completed (t : State) : Prop where
  phase : t.phase = .idle
  done : t.done = true
  deadline : t.deadline = 0
  pendingStart : t.pendingStart = false

/-- What the rest of an RxByte step does from `u`, where the byte is stored, to `t`. -/
structure ReplyEffect (u t : State) : Prop where
  kept : KeptByReply u t
  ends : ReplyGoesOn u t ∨ Completed t

theorem KeptByReply.refl (u : State) : KeptByReply u u :=
  ⟨rfl, rfl, rfl, rfl, rfl, rfl, rfl, rfl, rfl, rfl, rfl, rfl, rfl, rfl, rfl, rfl, rfl, rfl⟩

theorem KeptByReply.expectLength {u v : State} (h : KeptByReply u v) (n : Nat) (fb : Bool) :
    KeptByReply u (v.expectLength n fb) :=
  { h with }

theorem KeptByReply.complete_effect {u v : State} (h : KeptByReply u v) (e : ErrCode) : ReplyEffect u (v.complete e) :=
  ⟨{ h with }, .inr ⟨rfl, rfl, rfl, rfl⟩⟩

theorem KeptByReply.completeVerify_effect {u v : State} (h : KeptByReply u v) (l : Nat) :
    ReplyEffect u (v.completeVerify l) :=
  KeptByReply.complete_effect (v := v.applyVerdict _) { h with } _

theorem ReplyGoesOn.refl (u : State) : ReplyGoesOn u u :=
  ⟨rfl, rfl, rfl, rfl, rfl, rfl, rfl, rfl, rfl, rfl⟩

theorem ReplyGoesOn.expectLength {u v : State} (h : ReplyGoesOn u v) (n : Nat) (fb : Bool) :
    ReplyGoesOn u (v.expectLength n fb) :=
  { h with }

theorem KeptByReply.finishRx_effect {u v : State} (h : KeptByReply u v) (hon : ReplyGoesOn u v) :
    ReplyEffect u v.finishRx := by
  obtain ⟨-, -, hf⟩ | ⟨-, hf⟩ := v.finishRx_cases <;> rw [hf]
  · exact h.completeVerify_effect _
  · exact ⟨h, .inl hon⟩

theorem State.reassemble_effect {u t : State} (h : u.reassemble = .next t) : ReplyEffect u t := by
  have hkept := KeptByReply.refl u
  have hon := ReplyGoesOn.refl u
  obtain ⟨-, rfl⟩ | ⟨-, ⟨-, rfl⟩ | ⟨n, fb, -, rfl⟩ | ⟨-, rfl⟩⟩ := State.reassemble_next h
  · exact hkept.finishRx_effect hon
  · exact hkept.finishRx_effect hon
  · exact (hkept.expectLength n fb).finishRx_effect (hon.expectLength n fb)
  · exact hkept.complete_effect _

/-- Settles O31: the byte is stored, and the rest of the step has the effect above; PENDING_START is 0 in RX. -/
theorem rxByteStoresOneByte : Obligations.RxByteStoresOneByte := by
  intro s b hinv hp
  have hrx := (State.inv_iff_of_rx hp).mp hinv
  obtain ⟨t, ht, -⟩ := handleEvent_keeps_inv (.rxByte b) hinv
  obtain ⟨hkept, hends⟩ : ReplyEffect (s.storeRx b) t :=
    State.reassemble_effect ((handleEvent_rxByte_of_rx hp hrx.rxlen b).symm.trans ht)
  have hpend : t.pendingStart = s.pendingStart := by
    obtain hon | hdone := hends
    · exact hon.pendingStart
    · exact hdone.pendingStart.trans hrx.pending.symm
  have hread (k : Nat) : t.rxAt k = (s.storeRx b).rxAt k := congrArg (Memory.read _ · k) hkept.rxbuf
  refine ⟨t, ht, fun k => (hread k).trans (s.rxAt_storeRx k b), fun k => congrArg (Memory.read _ · k) hkept.txbuf,
    (congrArg BitVec.toNat hkept.rxlen).trans (State.toNat_rxlen_storeRx hrx.rxlen b), hkept.irqEn, hkept.slave,
    hkept.slaveSet, hkept.timeout, hkept.txfc, hkept.txlen, hkept.txcrc, hkept.txpos, hkept.crcAcc, hkept.crcMatch,
    hkept.reject, hkept.illegal, hkept.excess, hkept.inputs, hkept.params, hpend, hends.imp (fun hon => ?_) fun hdone => ?_⟩
  · exact ⟨hon.phase.trans hp, hon.link, hon.deadline, hon.outputs, hon.done, hon.err, hon.excCode, hon.fcMismatch, hon.rxcrc⟩
  · exact ⟨hdone.phase, hdone.done, hdone.deadline⟩

/-! ### A byte of a reply whose length is not known yet -/

section
variable {s : State} {b : Byte} (hp : s.phase = .rx) (hroom : s.rxlen.toNat < Config.maxAdu) (hx : s.rxexp = 0)
include hp hroom hx

/-- While dispatch() waits a byte is only stored (R178). -/
theorem handleEvent_rxByte_of_wait (hd : (s.storeRx b).dispatch = .wait) :
    handleEvent (.rxByte b) s = .next (s.storeRx b) := by
  rw [handleEvent_rxByte_of_rx hp hroom, State.reassemble_of_wait (s := s.storeRx b) hx hd]

/-- The byte that gives the length is stored, and the length noted (R178). -/
theorem handleEvent_rxByte_of_expect {n : Nat} {fb : Bool} (hd : (s.storeRx b).dispatch = .expect n fb) :
    handleEvent (.rxByte b) s = .next ((s.storeRx b).expectLength n fb) := by
  rw [handleEvent_rxByte_of_rx hp hroom, State.reassemble_of_expect (s := s.storeRx b) hx hd]

end

/-- The very first byte gives no length (41_length_dispatch.md R128). -/
theorem State.dispatch_storeRx_first {s : State} (hlen : s.rxlen = 0) (b : Byte) : (s.storeRx b).dispatch = .wait := by
  have hone : (s.storeRx b).rxlen.toNat = 1 := by simp [hlen]
  rw [State.dispatch, hone, lengthDecision]

/-! ### A byte of a reply whose length is known -/

theorem State.reassemble_of_reached {s : State} (hx : s.rxexp ≠ 0) (hlen : s.rxlen = s.rxexp) :
    s.reassemble = .next (s.completeVerify s.rxexp.toNat) := by
  rw [State.reassemble, if_neg hx, State.finishRx, if_pos ⟨hx, hlen⟩, hlen]

theorem State.reassemble_of_short {s : State} (hx : s.rxexp ≠ 0) (hlen : s.rxlen ≠ s.rxexp) : s.reassemble = .next s := by
  rw [State.reassemble, if_neg hx, State.finishRx, if_neg fun h => hlen h.2]

/-- Before the last byte of a sized reply a byte is only stored (R178). -/
theorem handleEvent_rxByte_of_short {s : State} (hp : s.phase = .rx) (hx : s.rxexp ≠ 0)
    (hmax : s.rxexp.toNat ≤ Config.maxAdu) (hlen : s.rxlen.toNat + 1 < s.rxexp.toNat) (b : Byte) :
    handleEvent (.rxByte b) s = .next (s.storeRx b) := by
  have hroom : s.rxlen.toNat < Config.maxAdu := by omega
  have hcount := State.toNat_rxlen_storeRx hroom b
  have hshort : (s.storeRx b).rxlen ≠ (s.storeRx b).rxexp := fun h => by
    rw [h, State.storeRx_rxexp] at hcount
    omega
  rw [handleEvent_rxByte_of_rx hp hroom, State.reassemble_of_short (s := s.storeRx b) hx hshort]

/-- The last byte of a sized reply completes with the verdict on the frame (R180). -/
theorem handleEvent_rxByte_of_last {s : State} (hp : s.phase = .rx) (hx : s.rxexp ≠ 0)
    (hmax : s.rxexp.toNat ≤ Config.maxAdu) (hlen : s.rxlen.toNat + 1 = s.rxexp.toNat) (b : Byte) :
    handleEvent (.rxByte b) s = .next ((s.storeRx b).completeVerify s.rxexp.toNat) := by
  have hroom : s.rxlen.toNat < Config.maxAdu := by omega
  have hreached : (s.storeRx b).rxlen = (s.storeRx b).rxexp :=
    BitVec.eq_of_toNat_eq ((State.toNat_rxlen_storeRx hroom b).trans hlen)
  rw [handleEvent_rxByte_of_rx hp hroom, State.reassemble_of_reached (s := s.storeRx b) hx hreached]
  rfl

/-! ### The verdict on a sized reply -/

/-- A frame of the length it was given is neither too short nor of a wrong length: an exception was given 5 (R123, R180). -/
theorem State.StoredInv.err_verify_ne {s : State} (h : s.StoredInv) (hx : s.rxexp ≠ 0) :
    (s.verify s.rxexp.toNat).err ≠ .frameTooShort ∧ (s.verify s.rxexp.toNat).err ≠ .lengthError := by
  obtain ⟨hmin, hmax, -⟩ := h.sized hx
  refine ⟨fun herr => ?_, fun herr => ?_⟩
  · exact absurd ((s.err_verify_eq_frameTooShort_iff _).mp herr) (Nat.not_lt.mpr hmin)
  · rw [s.err_verify_of_frame hmin hmax] at herr
    split_ifs at herr with _ _ hexc hlen
    exact hlen (congrArg BitVec.toNat (h.exception hx hexc))

/-- A verdict other than LENGTH_ERROR completes with LINK and the outputs as they were (60_exceptions.md R222). -/
theorem State.completeVerify_of_ne_lengthError {s : State} {l : Nat} (h : (s.verify l).err ≠ .lengthError) :
    s.completeVerify l = { s with
      rxcrc := (s.verify l).rxcrc, excCode := (s.verify l).excCode, fcMismatch := (s.verify l).fcMismatch,
      err := (s.verify l).err, done := true, phase := .idle, pendingStart := false, deadline := 0 } := by
  have hkeeps : (s.verify l).err.invalidates s.phase = false := by
    simp [ErrCode.invalidates, s.verify_not_transport l, h]
  exact State.complete_of_not_invalidates (s := s.applyVerdict (s.verify l)) hkeeps

/-- Settles O60: the byte that reaches the length completes, an earlier one leaves it short, and the first one waits. -/
theorem sizedReplyCompletesAtItsLength : Obligations.SizedReplyCompletesAtItsLength := by
  intro s b hinv hp
  have hrx := (State.inv_iff_of_rx hp).mp hinv
  refine ⟨fun hx hlast => ?_, fun hearly => ?_⟩
  · obtain ⟨hmin, hmax, -⟩ := hrx.sized hx
    obtain ⟨hshort, hlength⟩ := (hrx.storeRx b).err_verify_ne hx
    refine ⟨hshort, hlength, hrx.link, ?_⟩
    have hcount : s.rxlen + 1 = s.rxexp :=
      BitVec.eq_of_toNat_eq ((State.toNat_rxlen_storeRx hrx.rxlen b).trans hlast)
    have hcrc : ((s.storeRx b).verify s.rxexp.toNat).rxcrc = crc16 ((s.storeRx b).rxBytes (s.rxexp.toNat - 2)) :=
      ((s.storeRx b).rxcrc_verify _).trans (if_pos ⟨hmin, hmax⟩)
    rw [handleEvent_rxByte_of_last hp hx hmax hlast, State.completeVerify_of_ne_lengthError (l := s.rxexp.toNat) hlength, hcrc]
    simp only [State.storeRx, hcount, hrx.pending]
  · obtain hzero | ⟨hx, hlt⟩ := hearly
    · have hunsized : s.rxexp = 0 := not_not.mp fun hx => absurd (hrx.sizedLate hx) (by simp [hzero])
      exact handleEvent_rxByte_of_wait hp hrx.rxlen hunsized (State.dispatch_storeRx_first hzero b)
    · obtain ⟨-, hmax, -⟩ := hrx.sized hx
      exact handleEvent_rxByte_of_short hp hx hmax hlt b

end Sys2Proof.Machine
end

section
/-! PROOFS. The phase moves (43_transport.md R193), event by event. -/

namespace Sys2Proof.Machine

/-! ### The commands -/

theorem start_listedMove {e : Event} {s t : State} (he : e.commands .start) (h : exec .start s = .next t)
    (hne : t.phase ≠ s.phase) : ListedMove s e t := by
  obtain ⟨-, hstart⟩ := startCommandResult
  obtain ⟨hrefused, hlong, hdial, hsend⟩ := hstart s
  by_cases hr : s.phase ≠ .idle ∨ s.slaveSet = false
  · cases (hrefused hr).symm.trans h
    exact absurd rfl hne
  · obtain ⟨hp, hs⟩ : s.phase = .idle ∧ s.slaveSet = true := by simpa using hr
    rw [ListedMove, hp]
    obtain hover | hfits := Nat.lt_or_ge 252 s.txlen.toNat
    · cases (hlong hp hs hover).symm.trans h
      exact absurd rfl hne
    · cases hl : s.link with
      | false =>
        cases (hdial hp hs hfits hl).symm.trans h
        exact .inl ⟨he, hs, hfits, rfl, rfl, rfl, rfl, rfl⟩
      | true =>
        cases (hsend hp hs hfits hl).symm.trans h
        exact .inr (.inl ⟨he, hs, hfits, rfl, rfl, rfl, rfl⟩)

theorem connect_listedMove {e : Event} {s t : State} (he : e.commands .connect) (h : exec .connect s = .next t)
    (hne : t.phase ≠ s.phase) : ListedMove s e t := by
  obtain ⟨-, hconnect⟩ := connectCommandResult
  obtain ⟨hrefused, hlinked, hdial⟩ := hconnect s
  by_cases hp : s.phase = .idle
  · rw [ListedMove, hp]
    cases hl : s.link with
    | false =>
      cases (hdial hp hl).symm.trans h
      exact .inr (.inr ⟨he, rfl, rfl, rfl, rfl, rfl⟩)
    | true =>
      cases (hlinked hp hl).symm.trans h
      exact absurd rfl hne
  · cases (hrefused hp).symm.trans h
    exact absurd rfl hne

/-- Of the commands only START and CONNECT may change PHASE. -/
theorem exec_listedMove {e : Event} {i : Instr} {s t : State} (he : e.commands i) (h : exec i s = .next t)
    (hne : t.phase ≠ s.phase) : ListedMove s e t := by
  by_cases hstart : i = .start
  · subst hstart
    exact start_listedMove he h hne
  · by_cases hconnect : i = .connect
    · subst hconnect
      exact connect_listedMove he h hne
    · exact absurd ((exec_frame h).phase hstart hconnect) hne

theorem onHostWrite_listedMove {a : HostAddr} {v : Word} {s t : State} (h : onHostWrite a v s = .next t)
    (hne : t.phase ≠ s.phase) : ListedMove s (.hostWrite a v) t := by
  obtain ⟨ha, hw⟩ | ⟨-, hw⟩ := onHostWrite_cases a v s <;> rw [hw] at h
  · obtain ⟨i, hi, hx⟩ | ⟨-, hx⟩ := writeCmd_next v s <;> rw [hx] at h
    · exact exec_listedMove ⟨a, v, rfl, ha, hi⟩ h hne
    · cases h
      exact absurd rfl hne
  · cases h
    exact absurd (onStore_keeps_link _ v s).2 hne

/-! ### The other events -/

theorem State.complete_endedWith (s : State) (e : ErrCode) : (s.complete e).EndedWith e :=
  ⟨rfl, rfl, rfl⟩

theorem resetEvent_listedMove {s : State} (hne : s.resetEvent.phase ≠ s.phase) : ListedMove s .reset s.resetEvent := by
  unfold ListedMove
  cases hp : s.phase with
  | idle => exact absurd hp.symm hne
  | connecting => exact .inr (.inr (.inr ⟨rfl, rfl, rfl⟩))
  | tx => exact .inr (.inr (.inr ⟨rfl, rfl, rfl⟩))
  | rx => exact .inr (.inr (.inr (.inr ⟨rfl, rfl, rfl⟩)))

theorem onTxPull_listedMove {s t : State} (h : onTxPull s = .next t) (hne : t.phase ≠ s.phase) :
    ListedMove s .txPull t := by
  obtain ⟨-, rfl⟩ | ⟨hp, -, rfl⟩ := onTxPull_next h
  · exact absurd rfl hne
  · unfold State.advanceTx at hne ⊢
    split_ifs at hne ⊢ with hlast
    · rw [ListedMove, hp]
      exact .inl ⟨rfl, hlast, rfl, rfl⟩
    · exact absurd rfl hne

/-- A byte that ends RX by the completion test has brought RXLEN to RXEXP, with the verdict on the frame (R178, R180). -/
theorem State.finishRx_endedWith {s : State} (hne : s.finishRx.phase ≠ s.phase) :
    s.finishRx.rxlen = s.finishRx.rxexp ∧ s.finishRx.EndedWith (s.finishRx.verify s.finishRx.rxlen.toNat).err := by
  obtain ⟨-, hlen, hf⟩ | ⟨-, hf⟩ := s.finishRx_cases <;> rw [hf] at hne ⊢
  · have hverdict : ((s.completeVerify s.rxlen.toNat).verify s.rxlen.toNat).err = (s.verify s.rxlen.toNat).err :=
      State.err_verify_congr rfl rfl fun _ _ => rfl
    exact ⟨hlen, rfl, rfl, hverdict.symm⟩
  · exact absurd rfl hne

theorem onRxByte_listedMove {b : Byte} {s t : State} (h : onRxByte b s = .next t) (hne : t.phase ≠ s.phase) :
    ListedMove s (.rxByte b) t := by
  obtain ⟨-, rfl⟩ | ⟨hp, -, hr⟩ := onRxByte_next h
  · exact absurd rfl hne
  · rw [ListedMove, hp]
    obtain ⟨-, rfl⟩ | ⟨hx, ⟨-, rfl⟩ | ⟨n, fb, -, rfl⟩ | ⟨hd, rfl⟩⟩ := State.reassemble_next hr
    · exact .inr (.inl ⟨b, rfl, State.finishRx_endedWith (s := s.storeRx b) hne⟩)
    · exact .inr (.inl ⟨b, rfl, State.finishRx_endedWith (s := s.storeRx b) hne⟩)
    · exact .inr (.inl ⟨b, rfl, State.finishRx_endedWith (s := (s.storeRx b).expectLength n fb) hne⟩)
    · exact .inl ⟨b, rfl, hx, hd, State.complete_endedWith _ _⟩

theorem onConnectOk_listedMove {s : State} (hne : (onConnectOk s).phase ≠ s.phase) :
    ListedMove s .connectOk (onConnectOk s) := by
  by_cases hp : s.phase = .connecting
  · rw [ListedMove, hp]
    cases hpend : s.pendingStart with
    | true =>
      rw [onConnectOk_of_pending hp hpend]
      exact .inl ⟨rfl, rfl, rfl, rfl, rfl⟩
    | false =>
      rw [onConnectOk_of_not_pending hp hpend]
      exact .inr (.inl ⟨rfl, rfl, State.complete_endedWith _ _⟩)
  · exact absurd (congrArg State.phase (if_pos hp)) hne

theorem onConnectFail_listedMove {s : State} (hne : (onConnectFail s).phase ≠ s.phase) :
    ListedMove s .connectFail (onConnectFail s) := by
  by_cases hp : s.phase = .connecting
  · rw [ListedMove, hp, onConnectFail_of_connecting hp]
    exact .inr (.inr (.inl ⟨.inl rfl, State.complete_endedWith _ _⟩))
  · exact absurd (congrArg State.phase (if_neg hp)) hne

theorem onLinkDown_listedMove {s : State} (hne : (onLinkDown s).phase ≠ s.phase) :
    ListedMove s .linkDown (onLinkDown s) := by
  unfold ListedMove onLinkDown
  cases hp : s.phase with
  | idle => exact absurd (by rw [onLinkDown, hp]) hne
  | connecting => exact .inr (.inr (.inl ⟨.inr (.inl rfl), State.complete_endedWith _ _⟩))
  | tx => exact .inr (.inl ⟨rfl, State.complete_endedWith _ _⟩)
  | rx => exact .inr (.inr (.inl ⟨rfl, State.complete_endedWith _ _⟩))

theorem onTick_listedMove {s : State} (hne : (onTick s).phase ≠ s.phase) : ListedMove s .tick (onTick s) := by
  obtain ⟨-, ht⟩ | ⟨hp, -, hlast, ht⟩ | ⟨-, -, -, ht⟩ := onTick_cases s <;> rw [ht] at hne ⊢
  · exact absurd rfl hne
  · have hone : s.deadline = 1 := sub_eq_zero.mp hlast
    have hexpire : s.countDown.expire = s.countDown.complete (expiryError s.phase) := State.expire_of_busy hp
    rw [hexpire]
    unfold ListedMove
    cases hs : s.phase with
    | idle => exact absurd hs hp
    | connecting => exact .inr (.inr (.inl ⟨.inr (.inr ⟨rfl, hone⟩), State.complete_endedWith _ _⟩))
    | tx => exact .inr (.inr (.inl ⟨rfl, hone, State.complete_endedWith _ _⟩))
    | rx => exact .inr (.inr (.inr (.inl ⟨rfl, hone, State.complete_endedWith _ _⟩)))
  · exact absurd rfl hne

theorem handleEvent_listedMove {e : Event} {s t : State} (h : handleEvent e s = .next t) (hne : t.phase ≠ s.phase) :
    ListedMove s e t := by
  cases e with
  | reset => cases h; exact resetEvent_listedMove hne
  | hostRead a => cases h; exact absurd rfl hne
  | hostWrite a v => exact onHostWrite_listedMove h hne
  | txPull => exact onTxPull_listedMove h hne
  | rxByte b => exact onRxByte_listedMove h hne
  | connectOk => cases h; exact onConnectOk_listedMove hne
  | connectFail => cases h; exact onConnectFail_listedMove hne
  | linkDown => cases h; exact onLinkDown_listedMove hne
  | tick => cases h; exact onTick_listedMove hne

/-- Settles O54: no row of R193 reads the inputs to come. -/
theorem phaseMovesAreListed : Obligations.PhaseMovesAreListed := by
  intro s t e rest hs h hne
  rw [step_cons hs] at h
  exact handleEvent_listedMove (s := { s with inputs := rest }) h hne

end Sys2Proof.Machine
end

section
/-! PROOFS. The lock (43_transport.md R188, 20_memory.md R69): what a busy block keeps of the request and of the reply, event by
event. -/

namespace Sys2Proof.Machine

/-- The request of an exchange and what has come of its reply are as they were. -/
structure KeepsExchange (s t : State) : Prop where
  slave : t.slave = s.slave
  slaveSet : t.slaveSet = s.slaveSet
  txfc : t.txfc = s.txfc
  txlen : t.txlen = s.txlen
  txcrc : t.txcrc = s.txcrc
  txbuf : t.txbuf = s.txbuf
  rxlen : t.rxlen = s.rxlen
  rxexp : t.rxexp = s.rxexp
  rxbuf : t.rxbuf = s.rxbuf

theorem KeepsExchange.refl (s : State) : KeepsExchange s s :=
  ⟨rfl, rfl, rfl, rfl, rfl, rfl, rfl, rfl, rfl⟩

theorem KeepsExchange.markReject (s : State) : KeepsExchange s s.markReject :=
  { KeepsExchange.refl s with }

theorem KeepsExchange.complete {s u : State} (h : KeepsExchange s u) (e : ErrCode) : KeepsExchange s (u.complete e) :=
  { h with }

/-! ### The host -/

/-- While BUSY the engine commands are refused, and the others write the host CRC unit at most (R172). -/
theorem exec_keepsExchange {i : Instr} {s t : State} (hp : s.phase ≠ .idle) (h : exec i s = .next t) :
    KeepsExchange s t := by
  cases i with
  | nop | crcInit | crcByte | crcVerify => cases h; exact { KeepsExchange.refl s with }
  | encode | decode | start | connect | close =>
    cases (exec_refused (by simp [IsEngineCommand]) (.inl hp)).symm.trans h
    exact .markReject s

/-- The targets that R69 does not protect hold nothing of an exchange. -/
theorem State.storeTarget_keepsExchange {tgt : BusTarget} (h : tgt.isProtected = false) (v : Word) (s : State) :
    KeepsExchange s (s.storeTarget tgt v) := by
  cases tgt with
  | reg r =>
    cases r with
    | slave | txfc | txlen | rxlen => cases h
    | _ => exact { KeepsExchange.refl s with }
  | txbuf | rxbuf => cases h
  | unmapped => exact .refl s

theorem onHostWrite_keepsExchange {a : HostAddr} {v : Word} {s t : State} (hp : s.phase ≠ .idle)
    (h : onHostWrite a v s = .next t) : KeepsExchange s t := by
  obtain ⟨-, hw⟩ | ⟨-, hw⟩ := onHostWrite_cases a v s <;> rw [hw] at h
  · obtain ⟨i, -, hx⟩ | ⟨-, hx⟩ := writeCmd_next v s <;> rw [hx] at h
    · exact exec_keepsExchange hp h
    · cases h
      exact { KeepsExchange.refl s with }
  · cases h
    cases hprot : (busTarget a).isProtected with
    | true =>
      have hrefused : onStore (busTarget a) v s = s.markReject := if_pos (by simp [s.busy_iff.mpr hp, hprot])
      rw [hrefused]
      exact .markReject s
    | false =>
      rw [onStore_of_unprotected hprot]
      exact State.storeTarget_keepsExchange hprot v s

/-! ### The streams, the link and the clock -/

theorem onTxPull_keepsExchange {s t : State} (h : onTxPull s = .next t) : KeepsExchange s t := by
  obtain ⟨-, rfl⟩ | ⟨-, -, rfl⟩ := onTxPull_next h
  · exact .refl t
  · unfold State.advanceTx
    split_ifs <;> exact { KeepsExchange.refl s with }

theorem onConnectOk_keepsExchange (s : State) : KeepsExchange s (onConnectOk s) := by
  unfold onConnectOk
  split_ifs
  · exact .refl s
  · exact { KeepsExchange.refl s with }
  · exact KeepsExchange.complete (u := { s with link := true }) { KeepsExchange.refl s with } _

theorem onConnectFail_keepsExchange (s : State) : KeepsExchange s (onConnectFail s) := by
  unfold onConnectFail
  split_ifs
  · exact (KeepsExchange.refl s).complete _
  · exact .refl s

theorem onLinkDown_keepsExchange {s : State} (hp : s.phase ≠ .idle) : KeepsExchange s (onLinkDown s) := by
  rw [onLinkDown_of_busy hp]
  exact (KeepsExchange.refl s).complete _

theorem onTick_keepsExchange (s : State) : KeepsExchange s (onTick s) := by
  have hcount : KeepsExchange s s.countDown := { KeepsExchange.refl s with }
  obtain ⟨-, ht⟩ | ⟨hp, -, -, ht⟩ | ⟨-, -, -, ht⟩ := onTick_cases s <;> rw [ht]
  · exact .refl s
  · rw [State.expire_of_busy (s := s.countDown) hp]
    exact hcount.complete _
  · exact hcount

/-! ### Every event -/

/-- While BUSY only Reset and a byte received in RX reach the exchange. -/
theorem handleEvent_keepsExchange {e : Event} {s t : State} (he : e ≠ .reset) (hp : s.phase ≠ .idle)
    (hrx : s.phase ≠ .rx ∨ ∀ b, e ≠ .rxByte b) (h : handleEvent e s = .next t) : KeepsExchange s t := by
  cases e with
  | reset => exact absurd rfl he
  | hostRead a => cases h; exact { KeepsExchange.refl s with }
  | hostWrite a v => exact onHostWrite_keepsExchange hp h
  | txPull => exact onTxPull_keepsExchange h
  | rxByte b =>
    have hne : s.phase ≠ .rx := hrx.resolve_right fun hno => hno b rfl
    cases (handleEvent_rxByte_of_ne_rx hne b).symm.trans h
    exact { KeepsExchange.refl s with }
  | connectOk => cases h; exact onConnectOk_keepsExchange s
  | connectFail => cases h; exact onConnectFail_keepsExchange s
  | linkDown => cases h; exact onLinkDown_keepsExchange hp
  | tick => cases h; exact onTick_keepsExchange s

/-- A byte received in RX is stored at the entry RXLEN, and nothing of the request changes (R178). -/
theorem handleEvent_rxByte_kept {b : Byte} {s t : State} (hp : s.phase = .rx) (h : handleEvent (.rxByte b) s = .next t) :
    KeptByReply (s.storeRx b) t := by
  obtain ⟨hne, -⟩ | ⟨-, -, hr⟩ := onRxByte_next h
  · exact absurd hp hne
  · exact (State.reassemble_effect hr).kept

/-- Settles O55: a byte received in RX keeps the request and writes one entry; any other event keeps the whole exchange. -/
theorem exchangeLocksRequest : Obligations.ExchangeLocksRequest := by
  intro s t e rest hs he hp h
  rw [step_cons hs] at h
  by_cases hrx : s.phase ≠ .rx ∨ ∀ b, e ≠ .rxByte b
  · have hk := handleEvent_keepsExchange (s := { s with inputs := rest }) he hp hrx h
    exact ⟨hk.slave, hk.slaveSet, hk.txfc, hk.txlen, hk.txcrc, fun k => congrArg (Memory.read _ · k) hk.txbuf,
      fun _ => ⟨hk.rxlen, hk.rxexp⟩, fun k hne => absurd (congrArg (Memory.read _ · k) hk.rxbuf) hne⟩
  · obtain ⟨hin, b, rfl⟩ : s.phase = .rx ∧ ∃ b, e = .rxByte b := by simpa using hrx
    have hk := handleEvent_rxByte_kept (s := { s with inputs := rest }) hin h
    refine ⟨hk.slave, hk.slaveSet, hk.txfc, hk.txlen, hk.txcrc, fun k => congrArg (Memory.read _ · k) hk.txbuf,
      fun hout => absurd hout hrx, fun k hne => ⟨hin, ?_, b, rfl⟩⟩
    by_contra hother
    have hread : t.rxAt k = (s.storeRx b).rxAt k := congrArg (Memory.read _ · k) hk.rxbuf
    rw [State.rxAt_storeRx, if_neg hother] at hread
    exact hne hread

end Sys2Proof.Machine
end

section
/-! PROOFS. Whole replies received from the start of RX (43_transport.md R178, R180): the run stores the frame and completes with
the verdict on it, which for a READ reply and for an exception reply with its own CRC is worked out. -/

namespace Sys2Proof.Machine

/-! ### Bytes received one after the other -/

/-- The bytes stored from RXLEN on, and counted (R178). -/
def State.receive (s : State) (bytes : List Byte) : State :=
  { s with
    rxbuf := s.rxbuf.writeAll s.rxlen.toNat bytes
    rxlen := BitVec.ofNat 9 (s.rxlen.toNat + bytes.length) }

theorem State.receive_nil (s : State) : s.receive [] = s := by
  simp [State.receive, Memory.writeAll]

theorem State.receive_cons {s : State} (hroom : s.rxlen.toNat < Config.maxAdu) (b : Byte) (bytes : List Byte) :
    s.receive (b :: bytes) = (s.storeRx b).receive bytes := by
  have hcount := State.toNat_rxlen_storeRx hroom b
  have hlen : s.rxlen.toNat + (b :: bytes).length = s.rxlen.toNat + 1 + bytes.length := by
    rw [List.length_cons]
    omega
  rw [State.receive, State.receive, hcount, hlen]
  rfl

/-- In a run, a byte before the last one of a sized reply leaves the run of the other events. -/
theorem State.runEvents_rxByte_of_short {s : State} (hp : s.phase = .rx) (hx : s.rxexp ≠ 0)
    (hmax : s.rxexp.toNat ≤ Config.maxAdu) (hlen : s.rxlen.toNat + 1 < s.rxexp.toNat) (b : Byte) (es : List Event) :
    s.runEvents (.rxByte b :: es) = (s.storeRx b).runEvents es :=
  (runEvents_cons (handleEvent_rxByte_of_short (s := { s with inputs := es }) hp hx hmax hlen b) rfl).trans rfl

section
variable {s : State} {b : Byte} (hp : s.phase = .rx) (hroom : s.rxlen.toNat < Config.maxAdu) (hx : s.rxexp = 0)
include hp hroom hx

/-- In a run, a byte on which dispatch() waits leaves the run of the other events. -/
theorem State.runEvents_rxByte_of_wait (hd : (s.storeRx b).dispatch = .wait) (es : List Event) :
    s.runEvents (.rxByte b :: es) = (s.storeRx b).runEvents es :=
  (runEvents_cons (handleEvent_rxByte_of_wait (s := { s with inputs := es }) hp hroom hx hd) rfl).trans rfl

/-- In a run, a byte that gives the length leaves the run of the other events from the sized reply. -/
theorem State.runEvents_rxByte_of_expect {n : Nat} {fb : Bool} (hd : (s.storeRx b).dispatch = .expect n fb)
    (es : List Event) : s.runEvents (.rxByte b :: es) = ((s.storeRx b).expectLength n fb).runEvents es :=
  (runEvents_cons (handleEvent_rxByte_of_expect (s := { s with inputs := es }) hp hroom hx hd) rfl).trans rfl

end

/-- The rest of a reply of known length completes at its last byte (R178, R180). -/
theorem State.runEvents_rest {bytes : List Byte} (hne : bytes ≠ []) {s : State} (hp : s.phase = .rx) {n : Nat}
    (hn : s.rxexp.toNat = n) (hmax : n ≤ Config.maxAdu) (hlen : s.rxlen.toNat + bytes.length = n) :
    s.runEvents (bytes.map .rxByte) = .next (State.completeVerify { s.receive bytes with inputs := [] } n) := by
  subst hn
  induction bytes generalizing s with
  | nil => exact absurd rfl hne
  | cons b rest ih =>
    rw [List.length_cons] at hlen
    have hroom : s.rxlen.toNat < Config.maxAdu := by omega
    have hx : s.rxexp ≠ 0 := fun h => by
      have hzero : s.rxexp.toNat = 0 := congrArg BitVec.toNat h
      omega
    rw [State.receive_cons hroom, List.map_cons]
    cases rest with
    | nil =>
      rw [State.receive_nil]
      exact runEvents_cons (handleEvent_rxByte_of_last (s := { s with inputs := [] }) hp hx hmax hlen b) rfl
    | cons c cs =>
      have hshort : s.rxlen.toNat + 1 < s.rxexp.toNat := by
        rw [List.length_cons] at hlen
        omega
      rw [State.runEvents_rxByte_of_short hp hx hmax hshort]
      refine ih (by simp) (s := s.storeRx b) hp hmax ?_
      rw [State.toNat_rxlen_storeRx hroom, State.storeRx_rxexp]
      omega

/-! ### From the start of RX -/

/-- A block that has received a whole frame, of the length that dispatch() gave. -/
def State.withReply (s : State) (frame : List Byte) : State :=
  (s.withFrame frame).expectLength frame.length false

theorem State.withReply_eq_receive {s : State} (hlen : s.rxlen = 0) (frame : List Byte) :
    s.withReply frame = { (s.receive frame).expectLength frame.length false with inputs := [] } := by
  simp [State.withReply, State.withFrame, State.receive, State.expectLength, hlen]

/-- Once dispatch() has given the length of the frame, the run ends with the whole frame and the verdict on it. -/
theorem State.runEvents_expectLength {s u : State} (hlen : s.rxlen = 0) (hp : u.phase = .rx) {frame rest : List Byte}
    (hreceive : u.receive rest = s.receive frame) (hrest : rest ≠ []) (hmax : frame.length ≤ Config.maxAdu)
    (hcount : u.rxlen.toNat + rest.length = frame.length) :
    (u.expectLength frame.length false).runEvents (rest.map .rxByte) =
      .next ((s.withReply frame).completeVerify frame.length) := by
  rw [State.withReply_eq_receive hlen, ← hreceive]
  exact State.runEvents_rest hrest (s := u.expectLength frame.length false) hp (u.toNat_rxexp_expectLength hmax false) hmax
    hcount

section
variable {s : State} (hp : s.phase = .rx) (hlen : s.rxlen = 0) (hx : s.rxexp = 0) {a f : Byte} {rest : List Byte}
include hp hlen hx

/-- A reply of READ's shape completes at the length that its byte count gives (41_length_dispatch.md R124). -/
theorem State.runEvents_readReply (hclass : s.txClass = .read) (hf : f ≠ exceptionCodeOf s.txfc) {bc : Byte}
    (hbc : bc.toNat ≤ maxByteCount) (hrest : rest.length = bc.toNat + 2) :
    s.runEvents ((a :: f :: bc :: rest).map .rxByte) =
      .next ((s.withReply (a :: f :: bc :: rest)).completeVerify (a :: f :: bc :: rest).length) := by
  have hone : (s.storeRx a).rxlen = 1 := by simp [hlen]
  have htwo : ((s.storeRx a).storeRx f).rxlen = 2 := by simp [hlen]
  have hroom : s.rxlen.toNat < Config.maxAdu := by rw [hlen]; decide
  have hroom1 : (s.storeRx a).rxlen.toNat < Config.maxAdu := by rw [hone]; decide
  have hroom2 : ((s.storeRx a).storeRx f).rxlen.toNat < Config.maxAdu := by rw [htwo]; decide
  have hthree : (((s.storeRx a).storeRx f).storeRx bc).rxlen.toNat = 3 := by rw [State.toNat_rxlen_storeRx hroom2, htwo]; rfl
  have hwait : ((s.storeRx a).storeRx f).dispatch = .wait := by
    rw [State.dispatch_storeRx_second hone]
    exact (if_neg hf).trans (congrArg classDecision hclass)
  have hframe : (a :: f :: bc :: rest).length = readLength bc := by
    simp only [List.length_cons, hrest, readLength]
    omega
  have hsize : (((s.storeRx a).storeRx f).storeRx bc).dispatch = .expect (a :: f :: bc :: rest).length false := by
    rw [State.dispatch_storeRx_third htwo, countDecision_of_le hbc, hframe]
  simp only [List.map_cons]
  rw [State.runEvents_rxByte_of_wait hp hroom hx (State.dispatch_storeRx_first hlen a),
    State.runEvents_rxByte_of_wait (s := s.storeRx a) hp hroom1 hx hwait,
    State.runEvents_rxByte_of_expect (s := (s.storeRx a).storeRx f) hp hroom2 hx hsize]
  refine State.runEvents_expectLength hlen (u := ((s.storeRx a).storeRx f).storeRx bc) hp ?_ ?_ ?_ ?_
  · rw [State.receive_cons hroom, State.receive_cons hroom1, State.receive_cons hroom2]
  · exact List.ne_nil_of_length_pos (by omega)
  · have hle : bc.toNat ≤ 251 := hbc
    rw [hframe, readLength, Config.maxAdu]
    omega
  · rw [hthree]
    simp only [List.length_cons]
    omega

/-- An exception reply completes at its fifth byte, whatever the class of the request (41_length_dispatch.md R122, R123). -/
theorem State.runEvents_exceptionReply (hf : f = exceptionCodeOf s.txfc) (hrest : rest.length = 3) :
    s.runEvents ((a :: f :: rest).map .rxByte) =
      .next ((s.withReply (a :: f :: rest)).completeVerify (a :: f :: rest).length) := by
  have hone : (s.storeRx a).rxlen = 1 := by simp [hlen]
  have hroom : s.rxlen.toNat < Config.maxAdu := by rw [hlen]; decide
  have hroom1 : (s.storeRx a).rxlen.toNat < Config.maxAdu := by rw [hone]; decide
  have hframe : (a :: f :: rest).length = exceptionLength := by rw [List.length_cons, List.length_cons, hrest]; rfl
  have hsize : ((s.storeRx a).storeRx f).dispatch = .expect (a :: f :: rest).length false := by
    rw [State.dispatch_storeRx_second hone, hframe]
    exact if_pos hf
  simp only [List.map_cons]
  rw [State.runEvents_rxByte_of_wait hp hroom hx (State.dispatch_storeRx_first hlen a),
    State.runEvents_rxByte_of_expect (s := s.storeRx a) hp hroom1 hx hsize]
  refine State.runEvents_expectLength hlen (u := (s.storeRx a).storeRx f) hp ?_ ?_ ?_ ?_
  · rw [State.receive_cons hroom, State.receive_cons hroom1]
  · exact List.ne_nil_of_length_pos (by omega)
  · rw [hframe]
    decide
  · rw [State.toNat_rxlen_storeRx hroom1, hone, hframe, hrest]
    rfl

end

/-! ### The verdict on a whole frame -/

/-- The code for a frame with its own CRC from the addressed slave: OK, or what R147 makes of an exception's function code. -/
theorem State.err_verify_of_frameOf {s : State} {fc : Byte} {d : List Byte} (hd : d.length ≤ 252)
    (h : s.rxBytes (d.length + 4) = frameOf s.slave fc d) :
    (s.verify (d.length + 4)).err =
      if fc = exceptionCodeOf s.txfc then if d.length ≠ 1 then .lengthError else .exceptionResponse else .ok := by
  obtain ⟨haddr, hfc⟩ := State.rxAt_of_frame h
  have hcrc : crc16 (s.rxBytes (d.length + 4 - 2)) = le16 (s.rxAt (d.length + 4 - 2)) (s.rxAt (d.length + 4 - 1)) :=
    State.crc_of_frame h
  have hone : d.length + 4 ≠ 5 ↔ d.length ≠ 1 := by omega
  rw [s.err_verify_of_frame (by omega) (by omega), if_neg (not_not.mpr hcrc), if_neg (not_not.mpr haddr), hfc]
  simp only [hone]

theorem State.completeVerify_keeps_link {s : State} {l : Nat} (h : (s.verify l).err ≠ .lengthError) :
    (s.completeVerify l).link = s.link ∧ (s.completeVerify l).outputs = s.outputs := by
  rw [State.completeVerify_of_ne_lengthError h]
  exact ⟨rfl, rfl⟩

/-- A frame with its own CRC from the addressed slave, which is no exception, completes OK with what it carries (42_codec.md
R143, R148). -/
theorem State.completeVerify_of_goodFrame {s : State} {fc : Byte} {d : List Byte} (hd : d.length ≤ 252)
    (h : s.rxBytes (d.length + 4) = frameOf s.slave fc d) (hfc : fc ≠ exceptionCodeOf s.txfc) {t : State}
    (ht : t = s.completeVerify (d.length + 4)) :
    t.err = .ok ∧ t.excCode = s.excCode ∧ t.fcMismatch = decide (fc ≠ s.txfc) ∧ t.link = s.link ∧
      t.outputs = s.outputs ∧ t.rxcrc = crc16 (s.slave :: fc :: d) := by
  subst ht
  have hok : (s.verify (d.length + 4)).err = .ok := (State.err_verify_of_frameOf hd h).trans (if_neg hfc)
  have hflags := s.verify_flagsByCode (d.length + 4)
  obtain ⟨hlink, hout⟩ := State.completeVerify_keeps_link (by rw [hok]; decide)
  refine ⟨hok, hflags.excCode.trans (if_neg (by rw [hok]; decide)), ?_, hlink, hout, ?_⟩
  · refine hflags.fcMismatch.trans ((if_pos hok).trans ?_)
    rw [(State.rxAt_of_frame h).2]
  · exact (s.rxcrc_verify _).trans ((if_pos ⟨by omega, by omega⟩).trans (congrArg crc16 (State.rxBytes_of_frame h).1))

/-- An exception frame with its own CRC from the addressed slave completes with its code (42_codec.md R147). -/
theorem State.completeVerify_of_exceptionFrame {s : State} {code : Byte}
    (h : s.rxBytes 5 = frameOf s.slave (exceptionCodeOf s.txfc) [code]) {t : State} (ht : t = s.completeVerify 5) :
    t.err = .exceptionResponse ∧ t.excCode = code ∧ t.link = s.link ∧ t.outputs = s.outputs := by
  subst ht
  have hone : [code].length ≤ 252 := by rw [List.length_singleton]; decide
  have herr : (s.verify 5).err = .exceptionResponse := (State.err_verify_of_frameOf hone h).trans (if_pos rfl)
  have hbody : [s.rxAt 0, s.rxAt 1, s.rxAt 2] = [s.slave, exceptionCodeOf s.txfc, code] :=
    (State.rxBytes_of_frame (d := [code]) h).1
  obtain ⟨-, -, hcode⟩ : s.rxAt 0 = s.slave ∧ s.rxAt 1 = exceptionCodeOf s.txfc ∧ s.rxAt 2 = code := by simpa using hbody
  obtain ⟨hlink, hout⟩ := State.completeVerify_keeps_link (by rw [herr]; decide)
  exact ⟨herr, (s.verify_flagsByCode 5).excCode.trans ((if_pos herr).trans hcode), hlink, hout⟩

/-! ### The obligations -/

theorem State.rxBytes_withReply_frameOf (s : State) (a fc : Byte) (d : List Byte) :
    (s.withReply (frameOf a fc d)).rxBytes (d.length + 4) = frameOf a fc d := by
  rw [← length_frameOf a fc d]
  exact s.rxBytes_withFrame (frameOf a fc d)

/-- Settles O32: the run leaves the frame in RXBUF and the verdict on it, which is OK. -/
theorem readReplyReassembled : Obligations.ReadReplyReassembled := by
  intro s f data hp hlen hx hclass hf hd hexc
  generalize hbc : BitVec.ofNat 8 data.length = bc
  have hcount : bc.toNat = data.length := by rw [← hbc]; exact Nat.mod_eq_of_lt (by omega)
  have hsize : (frameOf s.slave f (bc :: data)).length = data.length + 5 := length_frameOf _ _ _
  have hframe := s.rxBytes_withReply_frameOf s.slave f (bc :: data)
  have hrun : s.runEvents ((frameOf s.slave f (bc :: data)).map .rxByte) =
      .next ((s.withReply (frameOf s.slave f (bc :: data))).completeVerify (data.length + 5)) := by
    rw [← hsize]
    exact State.runEvents_readReply hp hlen hx hclass hf (hcount.trans_le hd)
      (List.length_append.trans (congrArg (· + 2) hcount.symm))
  obtain ⟨hok, hcode, hmis, hlink, hout, hcrc⟩ :=
    State.completeVerify_of_goodFrame (d := bc :: data) (Nat.succ_le_succ hd) hframe hf rfl
  have hrxlen : (s.withReply (frameOf s.slave f (bc :: data))).rxlen.toNat = data.length + 5 :=
    (s.toNat_rxlen_withFrame (by omega)).trans hsize
  exact ⟨_, hrun, rfl, rfl, hok, hcode.trans hexc, hmis, hlink, hout, hrxlen, rfl, hframe, hcrc⟩

/-- Settles O33: the run leaves the frame in RXBUF and the verdict on it, which is the exception. -/
theorem exceptionReplyReported : Obligations.ExceptionReplyReported := by
  intro s code hp hlen hx
  have hframe := s.rxBytes_withReply_frameOf s.slave (exceptionCodeOf s.txfc) [code]
  have hrun := State.runEvents_exceptionReply (a := s.slave) hp hlen hx rfl
    (rest := code :: crcWire (crc16 [s.slave, exceptionCodeOf s.txfc, code])) rfl
  obtain ⟨herr, hcode, hlink, hout⟩ := State.completeVerify_of_exceptionFrame hframe rfl
  exact ⟨_, hrun, rfl, rfl, herr, hcode, hlink, hout, rfl, rfl⟩

end Sys2Proof.Machine
end

section
/-! PROOFS. Completion and what the host sees of it (60_exceptions.md): nothing else gives a result (R226), the last byte of a
reply against the last Tick (R225), which codes drop the link (R221, R222), and the interrupt output (R231). -/

namespace Sys2Proof.Machine

/-! ### What every event does to DONE and ERR -/

/-- What an event does to DONE and ERR, from `s` to `t`: it keeps ERR and sets no DONE (a store to STATUS may clear it), clears
both (43_transport.md R171, 70_reset_and_hazards.md R250), or completes (60_exceptions.md R226). -/
inductive ResultEffect (s t : State) : Prop where
  | kept (hd : t.done = true → s.done = true) (he : t.err = s.err)
  | cleared (hd : t.done = false) (he : t.err = .ok)
  | completed (h : Completed t)

theorem ResultEffect.complete (s u : State) (e : ErrCode) : ResultEffect s (u.complete e) :=
  .completed ⟨rfl, rfl, rfl, rfl⟩

/-- DONE is new only with a completion. -/
theorem ResultEffect.completed_of_done {s t : State} (h : ResultEffect s t) (ht : t.done = true) :
    s.done = true ∨ Completed t := by
  cases h with
  | kept hd _ => exact .inl (hd ht)
  | cleared hd _ => simp [hd] at ht
  | completed hend => exact .inr hend

/-- An error is new only with a completion. -/
theorem ResultEffect.completed_of_err {s t : State} (h : ResultEffect s t) (ht : t.err ≠ .ok) :
    t.err = s.err ∨ Completed t := by
  cases h with
  | kept _ he => exact .inl he
  | cleared _ he => exact absurd he ht
  | completed hend => exact .inr hend

/-- An accepted engine command completes at once, or goes on with the result that accept() cleared (43_transport.md R171). -/
theorem runAccepted_resultEffect (i : Instr) (s : State) : ResultEffect s (runAccepted i s) := by
  cases i with
  | nop | crcInit | crcByte | crcVerify => exact .kept id rfl
  | encode =>
    rw [runAccepted, State.runEncode]
    split_ifs <;> exact .complete s _ _
  | decode => exact .complete s _ _
  | start =>
    rw [runAccepted, State.runStart, State.beginExchange]
    split_ifs
    · exact .complete s _ _
    · exact .cleared rfl rfl
    · exact .cleared rfl rfl
  | connect =>
    rw [runAccepted, State.runConnect]
    split_ifs
    · exact .complete s _ _
    · exact .cleared rfl rfl
  | close =>
    rw [runAccepted, State.runClose]
    split_ifs <;> exact .complete s _ _

theorem exec_resultEffect {i : Instr} {s t : State} (h : exec i s = .next t) : ResultEffect s t := by
  cases i with
  | nop | crcInit | crcByte | crcVerify => cases h; exact .kept id rfl
  | encode | decode | start | connect | close =>
    rw [exec_engine (by simp [IsEngineCommand])] at h
    split_ifs at h <;> cases h
    · exact .kept id rfl
    · exact runAccepted_resultEffect _ s

/-- Of the stores only an acknowledgement reaches DONE, which it clears (10_state.md R24). -/
theorem onStore_resultEffect (tgt : BusTarget) (v : Word) (s : State) : ResultEffect s (onStore tgt v s) := by
  unfold onStore
  split_ifs
  · exact .kept id rfl
  · cases tgt with
    | reg r =>
      cases r with
      | status => exact .kept Bool.and_elim_left rfl
      | _ => exact .kept id rfl
    | txbuf | rxbuf | unmapped => exact .kept id rfl

theorem onHostWrite_resultEffect {a : HostAddr} {v : Word} {s t : State} (h : onHostWrite a v s = .next t) :
    ResultEffect s t := by
  obtain ⟨-, hw⟩ | ⟨-, hw⟩ := onHostWrite_cases a v s <;> rw [hw] at h
  · obtain ⟨i, -, hx⟩ | ⟨-, hx⟩ := writeCmd_next v s <;> rw [hx] at h
    · exact exec_resultEffect h
    · cases h
      exact .kept id rfl
  · cases h
    exact onStore_resultEffect _ v s

theorem onTxPull_resultEffect {s t : State} (h : onTxPull s = .next t) : ResultEffect s t := by
  obtain ⟨-, rfl⟩ | ⟨-, -, rfl⟩ := onTxPull_next h
  · exact .kept id rfl
  · unfold State.advanceTx
    split_ifs <;> exact .kept id rfl

/-- A reply that goes on gives no result, and one that ends has completed (43_transport.md R178). -/
theorem onRxByte_resultEffect {b : Byte} {s t : State} (h : onRxByte b s = .next t) : ResultEffect s t := by
  obtain ⟨-, rfl⟩ | ⟨-, -, hr⟩ := onRxByte_next h
  · exact .kept id rfl
  · obtain ⟨-, hon | hend⟩ := State.reassemble_effect hr
    · exact .kept (fun ht => hon.done.symm.trans ht) hon.err
    · exact .completed hend

theorem onConnectOk_resultEffect (s : State) : ResultEffect s (onConnectOk s) := by
  unfold onConnectOk
  split_ifs
  · exact .kept id rfl
  · exact .kept id rfl
  · exact .complete s _ _

theorem onConnectFail_resultEffect (s : State) : ResultEffect s (onConnectFail s) := by
  unfold onConnectFail
  split_ifs
  · exact .complete s _ _
  · exact .kept id rfl

theorem onLinkDown_resultEffect (s : State) : ResultEffect s (onLinkDown s) := by
  unfold onLinkDown
  cases s.phase with
  | connecting | tx | rx => exact .complete s _ _
  | idle => exact .kept id rfl

theorem onTick_resultEffect (s : State) : ResultEffect s (onTick s) := by
  obtain ⟨-, ht⟩ | ⟨hp, -, -, ht⟩ | ⟨-, -, -, ht⟩ := onTick_cases s <;> rw [ht]
  · exact .kept id rfl
  · rw [State.expire_of_busy (s := s.countDown) hp]
    exact .complete s _ _
  · exact .kept id rfl

theorem handleEvent_resultEffect {e : Event} {s t : State} (h : handleEvent e s = .next t) : ResultEffect s t := by
  cases e with
  | reset => cases h; exact .cleared rfl rfl
  | hostRead a => cases h; exact .kept id rfl
  | hostWrite a v => exact onHostWrite_resultEffect h
  | txPull => exact onTxPull_resultEffect h
  | rxByte b => exact onRxByte_resultEffect h
  | connectOk => cases h; exact onConnectOk_resultEffect s
  | connectFail => cases h; exact onConnectFail_resultEffect s
  | linkDown => cases h; exact onLinkDown_resultEffect s
  | tick => cases h; exact onTick_resultEffect s

/-- A step gives a new result only by a completion: with no input it gives none, and no event reads the inputs to come. -/
theorem step_result {s t : State} (h : step s = .next t) :
    (t.done = true → s.done = true ∨ Completed t) ∧ (t.err ≠ .ok → t.err = s.err ∨ Completed t) := by
  cases hs : s.inputs with
  | nil =>
    cases (step_nil hs).symm.trans h
    exact ⟨.inl, fun _ => .inl rfl⟩
  | cons e rest =>
    have heff := handleEvent_resultEffect ((step_cons hs).symm.trans h)
    exact ⟨heff.completed_of_done, heff.completed_of_err⟩

/-- Settles O39: a new DONE and a new error come with a completion, which leaves the block quiet. -/
theorem resultsOnlyByCompletion : Obligations.ResultsOnlyByCompletion := by
  intro s t h
  obtain ⟨hdone, herr⟩ := step_result h
  refine ⟨fun ht => (hdone ht).imp_right fun hend => ?_, fun ht => (herr ht).imp_right fun hend => ?_⟩
  · exact ⟨hend.phase, hend.pendingStart, hend.deadline⟩
  · exact ⟨hend.done, hend.phase, hend.pendingStart, hend.deadline⟩

/-! ### The last byte and the last Tick of one cycle -/

/-- In a run, the last byte of a sized reply leaves the run of the other events from the completed frame. -/
theorem State.runEvents_rxByte_of_last {s : State} (hp : s.phase = .rx) (hx : s.rxexp ≠ 0)
    (hmax : s.rxexp.toNat ≤ Config.maxAdu) (hlen : s.rxlen.toNat + 1 = s.rxexp.toNat) (b : Byte) (es : List Event) :
    s.runEvents (.rxByte b :: es) = ((s.storeRx b).completeVerify s.rxexp.toNat).runEvents es :=
  (runEvents_cons (handleEvent_rxByte_of_last (s := { s with inputs := es }) hp hx hmax hlen b) rfl).trans rfl

theorem State.err_verify_ne_timeoutError (s : State) (l : Nat) : (s.verify l).err ≠ .timeoutError := fun h => by
  have hcontent := s.verify_not_transport l
  rw [h] at hcontent
  cases hcontent

/-- Settles O59: R225 puts the byte first; it completes whatever the deadline, and in IDLE the Tick does not count. -/
theorem lastByteBeatsLastTick : Obligations.LastByteBeatsLastTick := by
  intro s b hinv hp hx hlast _
  have hrx := (State.inv_iff_of_rx hp).mp hinv
  obtain ⟨-, hmax, -⟩ := hrx.sized hx
  obtain ⟨-, hlength⟩ := (hrx.storeRx b).err_verify_ne hx
  obtain ⟨hlink, hout⟩ := State.completeVerify_keeps_link hlength
  have hbyte := State.runEvents_rxByte_of_last hp hx hmax hlast b [.tick]
  have htick : State.runEvents _ [.tick] = _ :=
    State.runEvents_ticks_of_unarmed 1 (s := (s.storeRx b).completeVerify s.rxexp.toNat) (.inl rfl)
  exact ⟨_, hbyte.trans htick, rfl, rfl, rfl, State.err_verify_ne_timeoutError _ _, hlink.trans hrx.link, hout⟩

/-! ### The classes of completion -/

/-- The content codes, and LENGTH_ERROR outside RX, do not invalidate (60_exceptions.md R222). -/
theorem ErrCode.not_invalidates_of_content {e : ErrCode} {p : Phase}
    (h : e = .frameTooShort ∨ e = .crcMismatch ∨ e = .exceptionResponse ∨ e = .payloadTooLong ∨ e = .addressMismatch ∨
      (e = .lengthError ∧ p ≠ .rx)) : e.invalidates p = false := by
  obtain rfl | rfl | rfl | rfl | rfl | ⟨rfl, hp⟩ := h
  pick_goal 6
  · exact ErrCode.invalidates_of_ne_rx hp
  all_goals rfl

/-- Settles O38: the two laws of complete(e), by whether `e` invalidates. -/
theorem transportErrorsInvalidateLink : Obligations.TransportErrorsInvalidateLink := by
  refine fun s e => ⟨fun htransport => ?_, fun hcontent => ?_⟩
  · rw [State.complete_of_invalidates ((e.invalidates_iff s.phase).mpr htransport)]
    exact ⟨rfl, rfl⟩
  · rw [State.complete_of_not_invalidates (ErrCode.not_invalidates_of_content hcontent)]
    exact ⟨rfl, rfl⟩

/-! ### The interrupt output -/

theorem State.attention_iff (s : State) :
    s.attention = true ↔ s.reject = true ∨ s.illegal = true ∨ s.excess = true := by
  simp [State.attention, or_assoc]

theorem State.irq_iff (s : State) :
    s.irq = true ↔ (s.done = true ∧ s.irqEn.getLsbD 0 = true) ∨ (s.attention = true ∧ s.irqEn.getLsbD 1 = true) := by
  simp [State.irq]

/-- With both enables clear there is no interrupt, whatever the flags (R231). -/
theorem State.irq_of_disabled {s : State} (h : s.irqEn = 0) : s.irq = false := by
  simp [State.irq, h]

/-- Settles O49: the formula, read off `irq` and ATTN; Reset clears the enables. -/
theorem irqOutput : Obligations.IrqOutput := by
  refine fun s => ⟨?_, s.resetEvent, rfl, State.irq_of_disabled rfl⟩
  rw [s.irq_iff, s.attention_iff]

end Sys2Proof.Machine
end

section
/-! PROOFS. Reset and power-up (70_reset_and_hazards.md R250 to R254): both leave every element cleared, so what the host reads
then is said once, of a cleared block. -/

namespace Sys2Proof.Machine

theorem bitAt_false (n : Nat) : bitAt false n = 0 := by
  simp [bitAt]

theorem byteAt_zero (n : Nat) : byteAt 0 n = 0 := by
  simp [byteAt]

section
variable {p : Params} {tx rx : Memory} {i : List Event} {o : List Output}

/-- No flag is set, and ERR and EXC_CODE are 0 (10_state.md R23). -/
theorem State.statusWord_cleared : (State.cleared p tx rx i o).statusWord = 0 := by
  simp only [State.statusWord_eq, State.cleared, State.busy, bne_self_eq_false, ErrCode.code, bitAt_false, byteAt_zero,
    BitVec.or_self]

/-- PHASE, PENDING_START, SLAVE_SET and TXPOS are 0 (10_state.md R34). -/
theorem State.engineWord_cleared : (State.cleared p tx rx i o).engineWord = 0 := by
  simp only [State.engineWord_eq, State.cleared, Phase.code, bitAt_false, byteAt_zero, BitVec.or_self]

/-- A cleared block reads as the reset column says (10_state.md R21). -/
theorem State.readReg_cleared (r : Reg) :
    (State.cleared p tx rx i o).readReg r =
      if r = .timeout then p.defaultTimeoutTicks else if r = .crcAcc then 0x0000FFFF else 0x00000000 := by
  cases r with
  | timeout | crcAcc => rfl
  | status => exact State.statusWord_cleared
  | engine => exact State.engineWord_cleared
  | cmd | irqEn | slave | txfc | txlen | txcrc | rxlen | rxexp | rxcrc | deadline => rfl

theorem State.irq_cleared : (State.cleared p tx rx i o).irq = false :=
  State.irq_of_disabled rfl

end

/-- Settles O50: Reset clears every element around the buffers and the outputs, which gain the Hangup. -/
theorem resetEventValues : Obligations.ResetEventValues := fun s =>
  ⟨s.resetEvent, rfl, State.readReg_cleared, rfl, rfl, rfl, rfl, rfl, rfl, rfl, rfl, rfl, State.irq_cleared, fun _ => rfl,
    fun _ => rfl, rfl⟩

/-- Settles O51: the power-up state is a cleared one, whose TIMEOUT is its own parameter. -/
theorem powerUpValues : Obligations.PowerUpValues :=
  ⟨State.readReg_cleared, rfl, rfl, State.irq_cleared⟩

end Sys2Proof.Machine
end
